-- ==== Sys2Proof/Word.lean ====
section
/-! DEFINITION. The word types of the core: 8-bit data and 16-bit addresses (00_scope.md R4, R6). -/

namespace Sys2Proof

/-- `u8` of 00_scope.md R6. -/
abbrev Byte := BitVec 8

/-- `u16` of 00_scope.md R6: an address, a pair, SP or PC. -/
abbrev Word := BitVec 16

end Sys2Proof
end

