-- ==== Sys2Proof/Syntax.lean ====
section
/-! DEFINITION. The instruction set as data: the operand fields of 30_encoding.md R83 to R90, one constructor of `Instr`
for every row of spec/opcode_table.json, and the regular groups of the opcode maps (30_encoding.md R112, R113) as
functions from their fields to `Instr`. -/

namespace Sys2Proof

/-- A two-bit field of an opcode (30_encoding.md R82). -/
inductive Field2 where
  | v0 | v1 | v2 | v3
deriving DecidableEq, Repr

/-- A three-bit field of an opcode (30_encoding.md R82). -/
inductive Field3 where
  | v0 | v1 | v2 | v3 | v4 | v5 | v6 | v7
deriving DecidableEq, Repr

/-- The seven 8-bit general registers (10_state.md R20). -/
inductive Reg8 where
  | b | c | d | e | h | l | a
deriving DecidableEq, Repr

/-- An 8-bit operand `r8[n]` (30_encoding.md R83): a register or the byte at HL. -/
inductive Opnd8 where
  | reg (r : Reg8)
  | indHl
deriving DecidableEq, Repr

/-- The second operand of the 8-bit ALU group (43_alu8.md R150). -/
inductive Src8 where
  | reg (r : Reg8)
  | indHl
  | imm (n : Byte)
deriving DecidableEq, Repr

/-- `rp[p]` (30_encoding.md R84). -/
inductive Rp where
  | bc | de | hl | sp
deriving DecidableEq, Repr

/-- `rp2[p]` (30_encoding.md R85). -/
inductive Rp2 where
  | bc | de | hl | af
deriving DecidableEq, Repr

/-- The 16-bit operands: the pairs of 10_state.md R21 and SP. -/
inductive Reg16 where
  | bc | de | hl | sp | af
deriving DecidableEq, Repr

/-- `rp[p]` as a 16-bit operand (30_encoding.md R84). -/
def Rp.reg16 : Rp → Reg16
  | .bc => .bc
  | .de => .de
  | .hl => .hl
  | .sp => .sp

/-- `rp2[p]` as a 16-bit operand (30_encoding.md R85). -/
def Rp2.reg16 : Rp2 → Reg16
  | .bc => .bc
  | .de => .de
  | .hl => .hl
  | .af => .af

/-- `cc[k]` (30_encoding.md R86). -/
inductive Cond where
  | nz | z | nc | c
deriving DecidableEq, Repr

/-- `alu[y]` (30_encoding.md R87). -/
inductive AluOp where
  | add | adc | sub | sbc | and | xor | or | cp
deriving DecidableEq, Repr

/-- `rot[y]` (30_encoding.md R88). -/
inductive RotOp where
  | rlc | rrc | rl | rr | sla | sra | swap | srl
deriving DecidableEq, Repr

/-- The memory operand of a load into A or a store of A other than (HL) (30_encoding.md R104 to R107). -/
inductive MemOpnd where
  | indBc
  | indDe
  | indHlInc
  | indHlDec
  | abs (a : Word)
  | high (n : Byte)
  | highC
deriving DecidableEq, Repr

/-- One constructor for every row of spec/opcode_table.json, named after the row in the conventional syntax
(30_encoding.md R111): `Ind` stands for the parentheses of a memory operand, and `d8`, `e8`, `a8`, `d16`, `a16` are the
immediates (30_encoding.md R91 to R94). The rows with an immediate stand first, then the others, both in the table's
order: Lean's runtime gives constructors with fields only small tags. -/
inductive Instr where
  /-- LD BC,d16 (R142). -/
  | ldBcD16 (n : Word)
  /-- LD B,d8 (R121). -/
  | ldBD8 (n : Byte)
  /-- LD (a16),SP (R143). -/
  | ldIndA16Sp (a : Word)
  /-- LD C,d8 (R121). -/
  | ldCD8 (n : Byte)
  /-- STOP (R222). -/
  | stop (x : Byte)
  /-- LD DE,d16 (R142). -/
  | ldDeD16 (n : Word)
  /-- LD D,d8 (R121). -/
  | ldDD8 (n : Byte)
  /-- JR e8 (R204). -/
  | jrE8 (e : Byte)
  /-- LD E,d8 (R121). -/
  | ldED8 (n : Byte)
  /-- JR NZ,e8 (R205). -/
  | jrNzE8 (e : Byte)
  /-- LD HL,d16 (R142). -/
  | ldHlD16 (n : Word)
  /-- LD H,d8 (R121). -/
  | ldHD8 (n : Byte)
  /-- JR Z,e8 (R205). -/
  | jrZE8 (e : Byte)
  /-- LD L,d8 (R121). -/
  | ldLD8 (n : Byte)
  /-- JR NC,e8 (R205). -/
  | jrNcE8 (e : Byte)
  /-- LD SP,d16 (R142). -/
  | ldSpD16 (n : Word)
  /-- LD (HL),d8 (R124). -/
  | ldIndHlD8 (n : Byte)
  /-- JR C,e8 (R205). -/
  | jrCE8 (e : Byte)
  /-- LD A,d8 (R121). -/
  | ldAD8 (n : Byte)
  /-- JP NZ,a16 (R202). -/
  | jpNzA16 (a : Word)
  /-- JP a16 (R201). -/
  | jpA16 (a : Word)
  /-- CALL NZ,a16 (R207). -/
  | callNzA16 (a : Word)
  /-- ADD A,d8 (R151). -/
  | addAD8 (n : Byte)
  /-- JP Z,a16 (R202). -/
  | jpZA16 (a : Word)
  /-- PREFIX CB (R96). -/
  | prefixCb (op2 : Byte)
  /-- CALL Z,a16 (R207). -/
  | callZA16 (a : Word)
  /-- CALL a16 (R206). -/
  | callA16 (a : Word)
  /-- ADC A,d8 (R152). -/
  | adcAD8 (n : Byte)
  /-- JP NC,a16 (R202). -/
  | jpNcA16 (a : Word)
  /-- CALL NC,a16 (R207). -/
  | callNcA16 (a : Word)
  /-- SUB d8 (R153). -/
  | subD8 (n : Byte)
  /-- JP C,a16 (R202). -/
  | jpCA16 (a : Word)
  /-- CALL C,a16 (R207). -/
  | callCA16 (a : Word)
  /-- SBC A,d8 (R154). -/
  | sbcAD8 (n : Byte)
  /-- LDH (a8),A (R134). -/
  | ldhIndA8A (n : Byte)
  /-- AND d8 (R155). -/
  | andD8 (n : Byte)
  /-- ADD SP,e8 (R173). -/
  | addSpE8 (e : Byte)
  /-- LD (a16),A (R130). -/
  | ldIndA16A (a : Word)
  /-- XOR d8 (R156). -/
  | xorD8 (n : Byte)
  /-- LDH A,(a8) (R133). -/
  | ldhAIndA8 (n : Byte)
  /-- OR d8 (R157). -/
  | orD8 (n : Byte)
  /-- LD HL,SP+e8 (R148). -/
  | ldHlSpE8 (e : Byte)
  /-- LD A,(a16) (R129). -/
  | ldAIndA16 (a : Word)
  /-- CP d8 (R158). -/
  | cpD8 (n : Byte)
  /-- NOP (R220). -/
  | nop
  /-- LD (BC),A (R127). -/
  | ldIndBcA
  /-- INC BC (R170). -/
  | incBc
  /-- INC B (R159). -/
  | incB
  /-- DEC B (R161). -/
  | decB
  /-- RLCA (R180). -/
  | rlca
  /-- ADD HL,BC (R172). -/
  | addHlBc
  /-- LD A,(BC) (R125). -/
  | ldAIndBc
  /-- DEC BC (R171). -/
  | decBc
  /-- INC C (R159). -/
  | incC
  /-- DEC C (R161). -/
  | decC
  /-- RRCA (R181). -/
  | rrca
  /-- LD (DE),A (R128). -/
  | ldIndDeA
  /-- INC DE (R170). -/
  | incDe
  /-- INC D (R159). -/
  | incD
  /-- DEC D (R161). -/
  | decD
  /-- RLA (R182). -/
  | rla
  /-- ADD HL,DE (R172). -/
  | addHlDe
  /-- LD A,(DE) (R126). -/
  | ldAIndDe
  /-- DEC DE (R171). -/
  | decDe
  /-- INC E (R159). -/
  | incE
  /-- DEC E (R161). -/
  | decE
  /-- RRA (R183). -/
  | rra
  /-- LD (HL+),A (R137). -/
  | ldIndHlIncA
  /-- INC HL (R170). -/
  | incHl
  /-- INC H (R159). -/
  | incH
  /-- DEC H (R161). -/
  | decH
  /-- DAA (R163). -/
  | daa
  /-- ADD HL,HL (R172). -/
  | addHlHl
  /-- LD A,(HL+) (R135). -/
  | ldAIndHlInc
  /-- DEC HL (R171). -/
  | decHl
  /-- INC L (R159). -/
  | incL
  /-- DEC L (R161). -/
  | decL
  /-- CPL (R164). -/
  | cpl
  /-- LD (HL-),A (R138). -/
  | ldIndHlDecA
  /-- INC SP (R170). -/
  | incSp
  /-- INC (HL) (R160). -/
  | incIndHl
  /-- DEC (HL) (R162). -/
  | decIndHl
  /-- SCF (R165). -/
  | scf
  /-- ADD HL,SP (R172). -/
  | addHlSp
  /-- LD A,(HL-) (R136). -/
  | ldAIndHlDec
  /-- DEC SP (R171). -/
  | decSp
  /-- INC A (R159). -/
  | incA
  /-- DEC A (R161). -/
  | decA
  /-- CCF (R166). -/
  | ccf
  /-- LD B,B (R120). -/
  | ldBB
  /-- LD B,C (R120). -/
  | ldBC
  /-- LD B,D (R120). -/
  | ldBD
  /-- LD B,E (R120). -/
  | ldBE
  /-- LD B,H (R120). -/
  | ldBH
  /-- LD B,L (R120). -/
  | ldBL
  /-- LD B,(HL) (R122). -/
  | ldBIndHl
  /-- LD B,A (R120). -/
  | ldBA
  /-- LD C,B (R120). -/
  | ldCB
  /-- LD C,C (R120). -/
  | ldCC
  /-- LD C,D (R120). -/
  | ldCD
  /-- LD C,E (R120). -/
  | ldCE
  /-- LD C,H (R120). -/
  | ldCH
  /-- LD C,L (R120). -/
  | ldCL
  /-- LD C,(HL) (R122). -/
  | ldCIndHl
  /-- LD C,A (R120). -/
  | ldCA
  /-- LD D,B (R120). -/
  | ldDB
  /-- LD D,C (R120). -/
  | ldDC
  /-- LD D,D (R120). -/
  | ldDD
  /-- LD D,E (R120). -/
  | ldDE
  /-- LD D,H (R120). -/
  | ldDH
  /-- LD D,L (R120). -/
  | ldDL
  /-- LD D,(HL) (R122). -/
  | ldDIndHl
  /-- LD D,A (R120). -/
  | ldDA
  /-- LD E,B (R120). -/
  | ldEB
  /-- LD E,C (R120). -/
  | ldEC
  /-- LD E,D (R120). -/
  | ldED
  /-- LD E,E (R120). -/
  | ldEE
  /-- LD E,H (R120). -/
  | ldEH
  /-- LD E,L (R120). -/
  | ldEL
  /-- LD E,(HL) (R122). -/
  | ldEIndHl
  /-- LD E,A (R120). -/
  | ldEA
  /-- LD H,B (R120). -/
  | ldHB
  /-- LD H,C (R120). -/
  | ldHC
  /-- LD H,D (R120). -/
  | ldHD
  /-- LD H,E (R120). -/
  | ldHE
  /-- LD H,H (R120). -/
  | ldHH
  /-- LD H,L (R120). -/
  | ldHL
  /-- LD H,(HL) (R122). -/
  | ldHIndHl
  /-- LD H,A (R120). -/
  | ldHA
  /-- LD L,B (R120). -/
  | ldLB
  /-- LD L,C (R120). -/
  | ldLC
  /-- LD L,D (R120). -/
  | ldLD
  /-- LD L,E (R120). -/
  | ldLE
  /-- LD L,H (R120). -/
  | ldLH
  /-- LD L,L (R120). -/
  | ldLL
  /-- LD L,(HL) (R122). -/
  | ldLIndHl
  /-- LD L,A (R120). -/
  | ldLA
  /-- LD (HL),B (R123). -/
  | ldIndHlB
  /-- LD (HL),C (R123). -/
  | ldIndHlC
  /-- LD (HL),D (R123). -/
  | ldIndHlD
  /-- LD (HL),E (R123). -/
  | ldIndHlE
  /-- LD (HL),H (R123). -/
  | ldIndHlH
  /-- LD (HL),L (R123). -/
  | ldIndHlL
  /-- HALT (R221). -/
  | halt
  /-- LD (HL),A (R123). -/
  | ldIndHlA
  /-- LD A,B (R120). -/
  | ldAB
  /-- LD A,C (R120). -/
  | ldAC
  /-- LD A,D (R120). -/
  | ldAD
  /-- LD A,E (R120). -/
  | ldAE
  /-- LD A,H (R120). -/
  | ldAH
  /-- LD A,L (R120). -/
  | ldAL
  /-- LD A,(HL) (R122). -/
  | ldAIndHl
  /-- LD A,A (R120). -/
  | ldAA
  /-- ADD A,B (R151). -/
  | addAB
  /-- ADD A,C (R151). -/
  | addAC
  /-- ADD A,D (R151). -/
  | addAD
  /-- ADD A,E (R151). -/
  | addAE
  /-- ADD A,H (R151). -/
  | addAH
  /-- ADD A,L (R151). -/
  | addAL
  /-- ADD A,(HL) (R151). -/
  | addAIndHl
  /-- ADD A,A (R151). -/
  | addAA
  /-- ADC A,B (R152). -/
  | adcAB
  /-- ADC A,C (R152). -/
  | adcAC
  /-- ADC A,D (R152). -/
  | adcAD
  /-- ADC A,E (R152). -/
  | adcAE
  /-- ADC A,H (R152). -/
  | adcAH
  /-- ADC A,L (R152). -/
  | adcAL
  /-- ADC A,(HL) (R152). -/
  | adcAIndHl
  /-- ADC A,A (R152). -/
  | adcAA
  /-- SUB B (R153). -/
  | subB
  /-- SUB C (R153). -/
  | subC
  /-- SUB D (R153). -/
  | subD
  /-- SUB E (R153). -/
  | subE
  /-- SUB H (R153). -/
  | subH
  /-- SUB L (R153). -/
  | subL
  /-- SUB (HL) (R153). -/
  | subIndHl
  /-- SUB A (R153). -/
  | subA
  /-- SBC A,B (R154). -/
  | sbcAB
  /-- SBC A,C (R154). -/
  | sbcAC
  /-- SBC A,D (R154). -/
  | sbcAD
  /-- SBC A,E (R154). -/
  | sbcAE
  /-- SBC A,H (R154). -/
  | sbcAH
  /-- SBC A,L (R154). -/
  | sbcAL
  /-- SBC A,(HL) (R154). -/
  | sbcAIndHl
  /-- SBC A,A (R154). -/
  | sbcAA
  /-- AND B (R155). -/
  | andB
  /-- AND C (R155). -/
  | andC
  /-- AND D (R155). -/
  | andD
  /-- AND E (R155). -/
  | andE
  /-- AND H (R155). -/
  | andH
  /-- AND L (R155). -/
  | andL
  /-- AND (HL) (R155). -/
  | andIndHl
  /-- AND A (R155). -/
  | andA
  /-- XOR B (R156). -/
  | xorB
  /-- XOR C (R156). -/
  | xorC
  /-- XOR D (R156). -/
  | xorD
  /-- XOR E (R156). -/
  | xorE
  /-- XOR H (R156). -/
  | xorH
  /-- XOR L (R156). -/
  | xorL
  /-- XOR (HL) (R156). -/
  | xorIndHl
  /-- XOR A (R156). -/
  | xorA
  /-- OR B (R157). -/
  | orB
  /-- OR C (R157). -/
  | orC
  /-- OR D (R157). -/
  | orD
  /-- OR E (R157). -/
  | orE
  /-- OR H (R157). -/
  | orH
  /-- OR L (R157). -/
  | orL
  /-- OR (HL) (R157). -/
  | orIndHl
  /-- OR A (R157). -/
  | orA
  /-- CP B (R158). -/
  | cpB
  /-- CP C (R158). -/
  | cpC
  /-- CP D (R158). -/
  | cpD
  /-- CP E (R158). -/
  | cpE
  /-- CP H (R158). -/
  | cpH
  /-- CP L (R158). -/
  | cpL
  /-- CP (HL) (R158). -/
  | cpIndHl
  /-- CP A (R158). -/
  | cpA
  /-- RET NZ (R209). -/
  | retNz
  /-- POP BC (R146). -/
  | popBc
  /-- PUSH BC (R145). -/
  | pushBc
  /-- RST 00H (R211). -/
  | rst00h
  /-- RET Z (R209). -/
  | retZ
  /-- RET (R208). -/
  | ret
  /-- RST 08H (R211). -/
  | rst08h
  /-- RET NC (R209). -/
  | retNc
  /-- POP DE (R146). -/
  | popDe
  /-- illegal opcode 0xD3 (R97). -/
  | illegalD3
  /-- PUSH DE (R145). -/
  | pushDe
  /-- RST 10H (R211). -/
  | rst10h
  /-- RET C (R209). -/
  | retC
  /-- RETI (R210). -/
  | reti
  /-- illegal opcode 0xDB (R97). -/
  | illegalDB
  /-- illegal opcode 0xDD (R97). -/
  | illegalDD
  /-- RST 18H (R211). -/
  | rst18h
  /-- POP HL (R146). -/
  | popHl
  /-- LDH (C),A (R132). -/
  | ldhIndCA
  /-- illegal opcode 0xE3 (R97). -/
  | illegalE3
  /-- illegal opcode 0xE4 (R97). -/
  | illegalE4
  /-- PUSH HL (R145). -/
  | pushHl
  /-- RST 20H (R211). -/
  | rst20h
  /-- JP HL (R203). -/
  | jpHl
  /-- illegal opcode 0xEB (R97). -/
  | illegalEB
  /-- illegal opcode 0xEC (R97). -/
  | illegalEC
  /-- illegal opcode 0xED (R97). -/
  | illegalED
  /-- RST 28H (R211). -/
  | rst28h
  /-- POP AF (R147). -/
  | popAf
  /-- LDH A,(C) (R131). -/
  | ldhAIndC
  /-- DI (R223). -/
  | di
  /-- illegal opcode 0xF4 (R97). -/
  | illegalF4
  /-- PUSH AF (R145). -/
  | pushAf
  /-- RST 30H (R211). -/
  | rst30h
  /-- LD SP,HL (R144). -/
  | ldSpHl
  /-- EI (R224). -/
  | ei
  /-- illegal opcode 0xFC (R97). -/
  | illegalFC
  /-- illegal opcode 0xFD (R97). -/
  | illegalFD
  /-- RST 38H (R211). -/
  | rst38h
  /-- RLC B (R185). -/
  | rlcB
  /-- RLC C (R185). -/
  | rlcC
  /-- RLC D (R185). -/
  | rlcD
  /-- RLC E (R185). -/
  | rlcE
  /-- RLC H (R185). -/
  | rlcH
  /-- RLC L (R185). -/
  | rlcL
  /-- RLC (HL) (R185). -/
  | rlcIndHl
  /-- RLC A (R185). -/
  | rlcA
  /-- RRC B (R186). -/
  | rrcB
  /-- RRC C (R186). -/
  | rrcC
  /-- RRC D (R186). -/
  | rrcD
  /-- RRC E (R186). -/
  | rrcE
  /-- RRC H (R186). -/
  | rrcH
  /-- RRC L (R186). -/
  | rrcL
  /-- RRC (HL) (R186). -/
  | rrcIndHl
  /-- RRC A (R186). -/
  | rrcA
  /-- RL B (R187). -/
  | rlB
  /-- RL C (R187). -/
  | rlC
  /-- RL D (R187). -/
  | rlD
  /-- RL E (R187). -/
  | rlE
  /-- RL H (R187). -/
  | rlH
  /-- RL L (R187). -/
  | rlL
  /-- RL (HL) (R187). -/
  | rlIndHl
  /-- RL A (R187). -/
  | rlA
  /-- RR B (R188). -/
  | rrB
  /-- RR C (R188). -/
  | rrC
  /-- RR D (R188). -/
  | rrD
  /-- RR E (R188). -/
  | rrE
  /-- RR H (R188). -/
  | rrH
  /-- RR L (R188). -/
  | rrL
  /-- RR (HL) (R188). -/
  | rrIndHl
  /-- RR A (R188). -/
  | rrA
  /-- SLA B (R189). -/
  | slaB
  /-- SLA C (R189). -/
  | slaC
  /-- SLA D (R189). -/
  | slaD
  /-- SLA E (R189). -/
  | slaE
  /-- SLA H (R189). -/
  | slaH
  /-- SLA L (R189). -/
  | slaL
  /-- SLA (HL) (R189). -/
  | slaIndHl
  /-- SLA A (R189). -/
  | slaA
  /-- SRA B (R190). -/
  | sraB
  /-- SRA C (R190). -/
  | sraC
  /-- SRA D (R190). -/
  | sraD
  /-- SRA E (R190). -/
  | sraE
  /-- SRA H (R190). -/
  | sraH
  /-- SRA L (R190). -/
  | sraL
  /-- SRA (HL) (R190). -/
  | sraIndHl
  /-- SRA A (R190). -/
  | sraA
  /-- SWAP B (R191). -/
  | swapB
  /-- SWAP C (R191). -/
  | swapC
  /-- SWAP D (R191). -/
  | swapD
  /-- SWAP E (R191). -/
  | swapE
  /-- SWAP H (R191). -/
  | swapH
  /-- SWAP L (R191). -/
  | swapL
  /-- SWAP (HL) (R191). -/
  | swapIndHl
  /-- SWAP A (R191). -/
  | swapA
  /-- SRL B (R192). -/
  | srlB
  /-- SRL C (R192). -/
  | srlC
  /-- SRL D (R192). -/
  | srlD
  /-- SRL E (R192). -/
  | srlE
  /-- SRL H (R192). -/
  | srlH
  /-- SRL L (R192). -/
  | srlL
  /-- SRL (HL) (R192). -/
  | srlIndHl
  /-- SRL A (R192). -/
  | srlA
  /-- BIT 0,B (R193). -/
  | bit0B
  /-- BIT 0,C (R193). -/
  | bit0C
  /-- BIT 0,D (R193). -/
  | bit0D
  /-- BIT 0,E (R193). -/
  | bit0E
  /-- BIT 0,H (R193). -/
  | bit0H
  /-- BIT 0,L (R193). -/
  | bit0L
  /-- BIT 0,(HL) (R193). -/
  | bit0IndHl
  /-- BIT 0,A (R193). -/
  | bit0A
  /-- BIT 1,B (R193). -/
  | bit1B
  /-- BIT 1,C (R193). -/
  | bit1C
  /-- BIT 1,D (R193). -/
  | bit1D
  /-- BIT 1,E (R193). -/
  | bit1E
  /-- BIT 1,H (R193). -/
  | bit1H
  /-- BIT 1,L (R193). -/
  | bit1L
  /-- BIT 1,(HL) (R193). -/
  | bit1IndHl
  /-- BIT 1,A (R193). -/
  | bit1A
  /-- BIT 2,B (R193). -/
  | bit2B
  /-- BIT 2,C (R193). -/
  | bit2C
  /-- BIT 2,D (R193). -/
  | bit2D
  /-- BIT 2,E (R193). -/
  | bit2E
  /-- BIT 2,H (R193). -/
  | bit2H
  /-- BIT 2,L (R193). -/
  | bit2L
  /-- BIT 2,(HL) (R193). -/
  | bit2IndHl
  /-- BIT 2,A (R193). -/
  | bit2A
  /-- BIT 3,B (R193). -/
  | bit3B
  /-- BIT 3,C (R193). -/
  | bit3C
  /-- BIT 3,D (R193). -/
  | bit3D
  /-- BIT 3,E (R193). -/
  | bit3E
  /-- BIT 3,H (R193). -/
  | bit3H
  /-- BIT 3,L (R193). -/
  | bit3L
  /-- BIT 3,(HL) (R193). -/
  | bit3IndHl
  /-- BIT 3,A (R193). -/
  | bit3A
  /-- BIT 4,B (R193). -/
  | bit4B
  /-- BIT 4,C (R193). -/
  | bit4C
  /-- BIT 4,D (R193). -/
  | bit4D
  /-- BIT 4,E (R193). -/
  | bit4E
  /-- BIT 4,H (R193). -/
  | bit4H
  /-- BIT 4,L (R193). -/
  | bit4L
  /-- BIT 4,(HL) (R193). -/
  | bit4IndHl
  /-- BIT 4,A (R193). -/
  | bit4A
  /-- BIT 5,B (R193). -/
  | bit5B
  /-- BIT 5,C (R193). -/
  | bit5C
  /-- BIT 5,D (R193). -/
  | bit5D
  /-- BIT 5,E (R193). -/
  | bit5E
  /-- BIT 5,H (R193). -/
  | bit5H
  /-- BIT 5,L (R193). -/
  | bit5L
  /-- BIT 5,(HL) (R193). -/
  | bit5IndHl
  /-- BIT 5,A (R193). -/
  | bit5A
  /-- BIT 6,B (R193). -/
  | bit6B
  /-- BIT 6,C (R193). -/
  | bit6C
  /-- BIT 6,D (R193). -/
  | bit6D
  /-- BIT 6,E (R193). -/
  | bit6E
  /-- BIT 6,H (R193). -/
  | bit6H
  /-- BIT 6,L (R193). -/
  | bit6L
  /-- BIT 6,(HL) (R193). -/
  | bit6IndHl
  /-- BIT 6,A (R193). -/
  | bit6A
  /-- BIT 7,B (R193). -/
  | bit7B
  /-- BIT 7,C (R193). -/
  | bit7C
  /-- BIT 7,D (R193). -/
  | bit7D
  /-- BIT 7,E (R193). -/
  | bit7E
  /-- BIT 7,H (R193). -/
  | bit7H
  /-- BIT 7,L (R193). -/
  | bit7L
  /-- BIT 7,(HL) (R193). -/
  | bit7IndHl
  /-- BIT 7,A (R193). -/
  | bit7A
  /-- RES 0,B (R194). -/
  | res0B
  /-- RES 0,C (R194). -/
  | res0C
  /-- RES 0,D (R194). -/
  | res0D
  /-- RES 0,E (R194). -/
  | res0E
  /-- RES 0,H (R194). -/
  | res0H
  /-- RES 0,L (R194). -/
  | res0L
  /-- RES 0,(HL) (R194). -/
  | res0IndHl
  /-- RES 0,A (R194). -/
  | res0A
  /-- RES 1,B (R194). -/
  | res1B
  /-- RES 1,C (R194). -/
  | res1C
  /-- RES 1,D (R194). -/
  | res1D
  /-- RES 1,E (R194). -/
  | res1E
  /-- RES 1,H (R194). -/
  | res1H
  /-- RES 1,L (R194). -/
  | res1L
  /-- RES 1,(HL) (R194). -/
  | res1IndHl
  /-- RES 1,A (R194). -/
  | res1A
  /-- RES 2,B (R194). -/
  | res2B
  /-- RES 2,C (R194). -/
  | res2C
  /-- RES 2,D (R194). -/
  | res2D
  /-- RES 2,E (R194). -/
  | res2E
  /-- RES 2,H (R194). -/
  | res2H
  /-- RES 2,L (R194). -/
  | res2L
  /-- RES 2,(HL) (R194). -/
  | res2IndHl
  /-- RES 2,A (R194). -/
  | res2A
  /-- RES 3,B (R194). -/
  | res3B
  /-- RES 3,C (R194). -/
  | res3C
  /-- RES 3,D (R194). -/
  | res3D
  /-- RES 3,E (R194). -/
  | res3E
  /-- RES 3,H (R194). -/
  | res3H
  /-- RES 3,L (R194). -/
  | res3L
  /-- RES 3,(HL) (R194). -/
  | res3IndHl
  /-- RES 3,A (R194). -/
  | res3A
  /-- RES 4,B (R194). -/
  | res4B
  /-- RES 4,C (R194). -/
  | res4C
  /-- RES 4,D (R194). -/
  | res4D
  /-- RES 4,E (R194). -/
  | res4E
  /-- RES 4,H (R194). -/
  | res4H
  /-- RES 4,L (R194). -/
  | res4L
  /-- RES 4,(HL) (R194). -/
  | res4IndHl
  /-- RES 4,A (R194). -/
  | res4A
  /-- RES 5,B (R194). -/
  | res5B
  /-- RES 5,C (R194). -/
  | res5C
  /-- RES 5,D (R194). -/
  | res5D
  /-- RES 5,E (R194). -/
  | res5E
  /-- RES 5,H (R194). -/
  | res5H
  /-- RES 5,L (R194). -/
  | res5L
  /-- RES 5,(HL) (R194). -/
  | res5IndHl
  /-- RES 5,A (R194). -/
  | res5A
  /-- RES 6,B (R194). -/
  | res6B
  /-- RES 6,C (R194). -/
  | res6C
  /-- RES 6,D (R194). -/
  | res6D
  /-- RES 6,E (R194). -/
  | res6E
  /-- RES 6,H (R194). -/
  | res6H
  /-- RES 6,L (R194). -/
  | res6L
  /-- RES 6,(HL) (R194). -/
  | res6IndHl
  /-- RES 6,A (R194). -/
  | res6A
  /-- RES 7,B (R194). -/
  | res7B
  /-- RES 7,C (R194). -/
  | res7C
  /-- RES 7,D (R194). -/
  | res7D
  /-- RES 7,E (R194). -/
  | res7E
  /-- RES 7,H (R194). -/
  | res7H
  /-- RES 7,L (R194). -/
  | res7L
  /-- RES 7,(HL) (R194). -/
  | res7IndHl
  /-- RES 7,A (R194). -/
  | res7A
  /-- SET 0,B (R195). -/
  | set0B
  /-- SET 0,C (R195). -/
  | set0C
  /-- SET 0,D (R195). -/
  | set0D
  /-- SET 0,E (R195). -/
  | set0E
  /-- SET 0,H (R195). -/
  | set0H
  /-- SET 0,L (R195). -/
  | set0L
  /-- SET 0,(HL) (R195). -/
  | set0IndHl
  /-- SET 0,A (R195). -/
  | set0A
  /-- SET 1,B (R195). -/
  | set1B
  /-- SET 1,C (R195). -/
  | set1C
  /-- SET 1,D (R195). -/
  | set1D
  /-- SET 1,E (R195). -/
  | set1E
  /-- SET 1,H (R195). -/
  | set1H
  /-- SET 1,L (R195). -/
  | set1L
  /-- SET 1,(HL) (R195). -/
  | set1IndHl
  /-- SET 1,A (R195). -/
  | set1A
  /-- SET 2,B (R195). -/
  | set2B
  /-- SET 2,C (R195). -/
  | set2C
  /-- SET 2,D (R195). -/
  | set2D
  /-- SET 2,E (R195). -/
  | set2E
  /-- SET 2,H (R195). -/
  | set2H
  /-- SET 2,L (R195). -/
  | set2L
  /-- SET 2,(HL) (R195). -/
  | set2IndHl
  /-- SET 2,A (R195). -/
  | set2A
  /-- SET 3,B (R195). -/
  | set3B
  /-- SET 3,C (R195). -/
  | set3C
  /-- SET 3,D (R195). -/
  | set3D
  /-- SET 3,E (R195). -/
  | set3E
  /-- SET 3,H (R195). -/
  | set3H
  /-- SET 3,L (R195). -/
  | set3L
  /-- SET 3,(HL) (R195). -/
  | set3IndHl
  /-- SET 3,A (R195). -/
  | set3A
  /-- SET 4,B (R195). -/
  | set4B
  /-- SET 4,C (R195). -/
  | set4C
  /-- SET 4,D (R195). -/
  | set4D
  /-- SET 4,E (R195). -/
  | set4E
  /-- SET 4,H (R195). -/
  | set4H
  /-- SET 4,L (R195). -/
  | set4L
  /-- SET 4,(HL) (R195). -/
  | set4IndHl
  /-- SET 4,A (R195). -/
  | set4A
  /-- SET 5,B (R195). -/
  | set5B
  /-- SET 5,C (R195). -/
  | set5C
  /-- SET 5,D (R195). -/
  | set5D
  /-- SET 5,E (R195). -/
  | set5E
  /-- SET 5,H (R195). -/
  | set5H
  /-- SET 5,L (R195). -/
  | set5L
  /-- SET 5,(HL) (R195). -/
  | set5IndHl
  /-- SET 5,A (R195). -/
  | set5A
  /-- SET 6,B (R195). -/
  | set6B
  /-- SET 6,C (R195). -/
  | set6C
  /-- SET 6,D (R195). -/
  | set6D
  /-- SET 6,E (R195). -/
  | set6E
  /-- SET 6,H (R195). -/
  | set6H
  /-- SET 6,L (R195). -/
  | set6L
  /-- SET 6,(HL) (R195). -/
  | set6IndHl
  /-- SET 6,A (R195). -/
  | set6A
  /-- SET 7,B (R195). -/
  | set7B
  /-- SET 7,C (R195). -/
  | set7C
  /-- SET 7,D (R195). -/
  | set7D
  /-- SET 7,E (R195). -/
  | set7E
  /-- SET 7,H (R195). -/
  | set7H
  /-- SET 7,L (R195). -/
  | set7L
  /-- SET 7,(HL) (R195). -/
  | set7IndHl
  /-- SET 7,A (R195). -/
  | set7A
deriving DecidableEq, Repr

/-- `LD r8[y],r8[z]` of the x = 1 group (30_encoding.md R112): R120, R122, R123; y = z = 6 is HALT (R100). -/
def Instr.ld : Opnd8 → Opnd8 → Instr
  | .reg .b, .reg .b => .ldBB
  | .reg .b, .reg .c => .ldBC
  | .reg .b, .reg .d => .ldBD
  | .reg .b, .reg .e => .ldBE
  | .reg .b, .reg .h => .ldBH
  | .reg .b, .reg .l => .ldBL
  | .reg .b, .indHl => .ldBIndHl
  | .reg .b, .reg .a => .ldBA
  | .reg .c, .reg .b => .ldCB
  | .reg .c, .reg .c => .ldCC
  | .reg .c, .reg .d => .ldCD
  | .reg .c, .reg .e => .ldCE
  | .reg .c, .reg .h => .ldCH
  | .reg .c, .reg .l => .ldCL
  | .reg .c, .indHl => .ldCIndHl
  | .reg .c, .reg .a => .ldCA
  | .reg .d, .reg .b => .ldDB
  | .reg .d, .reg .c => .ldDC
  | .reg .d, .reg .d => .ldDD
  | .reg .d, .reg .e => .ldDE
  | .reg .d, .reg .h => .ldDH
  | .reg .d, .reg .l => .ldDL
  | .reg .d, .indHl => .ldDIndHl
  | .reg .d, .reg .a => .ldDA
  | .reg .e, .reg .b => .ldEB
  | .reg .e, .reg .c => .ldEC
  | .reg .e, .reg .d => .ldED
  | .reg .e, .reg .e => .ldEE
  | .reg .e, .reg .h => .ldEH
  | .reg .e, .reg .l => .ldEL
  | .reg .e, .indHl => .ldEIndHl
  | .reg .e, .reg .a => .ldEA
  | .reg .h, .reg .b => .ldHB
  | .reg .h, .reg .c => .ldHC
  | .reg .h, .reg .d => .ldHD
  | .reg .h, .reg .e => .ldHE
  | .reg .h, .reg .h => .ldHH
  | .reg .h, .reg .l => .ldHL
  | .reg .h, .indHl => .ldHIndHl
  | .reg .h, .reg .a => .ldHA
  | .reg .l, .reg .b => .ldLB
  | .reg .l, .reg .c => .ldLC
  | .reg .l, .reg .d => .ldLD
  | .reg .l, .reg .e => .ldLE
  | .reg .l, .reg .h => .ldLH
  | .reg .l, .reg .l => .ldLL
  | .reg .l, .indHl => .ldLIndHl
  | .reg .l, .reg .a => .ldLA
  | .indHl, .reg .b => .ldIndHlB
  | .indHl, .reg .c => .ldIndHlC
  | .indHl, .reg .d => .ldIndHlD
  | .indHl, .reg .e => .ldIndHlE
  | .indHl, .reg .h => .ldIndHlH
  | .indHl, .reg .l => .ldIndHlL
  | .indHl, .indHl => .halt
  | .indHl, .reg .a => .ldIndHlA
  | .reg .a, .reg .b => .ldAB
  | .reg .a, .reg .c => .ldAC
  | .reg .a, .reg .d => .ldAD
  | .reg .a, .reg .e => .ldAE
  | .reg .a, .reg .h => .ldAH
  | .reg .a, .reg .l => .ldAL
  | .reg .a, .indHl => .ldAIndHl
  | .reg .a, .reg .a => .ldAA

/-- `LD r8[y],d8` (30_encoding.md R112): R121, R124. -/
def Instr.ldImm : Opnd8 → Byte → Instr
  | .reg .b, n => .ldBD8 n
  | .reg .c, n => .ldCD8 n
  | .reg .d, n => .ldDD8 n
  | .reg .e, n => .ldED8 n
  | .reg .h, n => .ldHD8 n
  | .reg .l, n => .ldLD8 n
  | .indHl, n => .ldIndHlD8 n
  | .reg .a, n => .ldAD8 n

/-- The loads of A from memory other than (HL): R125, R126, R129, R131, R133, R135, R136. -/
def Instr.ldAFrom : MemOpnd → Instr
  | .indBc => .ldAIndBc
  | .indDe => .ldAIndDe
  | .indHlInc => .ldAIndHlInc
  | .indHlDec => .ldAIndHlDec
  | .abs a => .ldAIndA16 a
  | .high n => .ldhAIndA8 n
  | .highC => .ldhAIndC

/-- The stores of A to memory other than (HL): R127, R128, R130, R132, R134, R137, R138. -/
def Instr.ldATo : MemOpnd → Instr
  | .indBc => .ldIndBcA
  | .indDe => .ldIndDeA
  | .indHlInc => .ldIndHlIncA
  | .indHlDec => .ldIndHlDecA
  | .abs a => .ldIndA16A a
  | .high n => .ldhIndA8A n
  | .highC => .ldhIndCA

/-- `LD rp[p],d16` (R142). -/
def Instr.ldRp : Rp → Word → Instr
  | .bc, n => .ldBcD16 n
  | .de, n => .ldDeD16 n
  | .hl, n => .ldHlD16 n
  | .sp, n => .ldSpD16 n

/-- `INC rp[p]` (R170). -/
def Instr.incRp : Rp → Instr
  | .bc => .incBc
  | .de => .incDe
  | .hl => .incHl
  | .sp => .incSp

/-- `DEC rp[p]` (R171). -/
def Instr.decRp : Rp → Instr
  | .bc => .decBc
  | .de => .decDe
  | .hl => .decHl
  | .sp => .decSp

/-- `ADD HL,rp[p]` (R172). -/
def Instr.addHl : Rp → Instr
  | .bc => .addHlBc
  | .de => .addHlDe
  | .hl => .addHlHl
  | .sp => .addHlSp

/-- `PUSH rp2[p]` (R145). -/
def Instr.push : Rp2 → Instr
  | .bc => .pushBc
  | .de => .pushDe
  | .hl => .pushHl
  | .af => .pushAf

/-- `POP rp2[p]` (R146, R147). -/
def Instr.pop : Rp2 → Instr
  | .bc => .popBc
  | .de => .popDe
  | .hl => .popHl
  | .af => .popAf

/-- `INC r8[y]` (R159, R160). -/
def Instr.inc : Opnd8 → Instr
  | .reg .b => .incB
  | .reg .c => .incC
  | .reg .d => .incD
  | .reg .e => .incE
  | .reg .h => .incH
  | .reg .l => .incL
  | .indHl => .incIndHl
  | .reg .a => .incA

/-- `DEC r8[y]` (R161, R162). -/
def Instr.dec : Opnd8 → Instr
  | .reg .b => .decB
  | .reg .c => .decC
  | .reg .d => .decD
  | .reg .e => .decE
  | .reg .h => .decH
  | .reg .l => .decL
  | .indHl => .decIndHl
  | .reg .a => .decA

/-- `alu[y]` with its three operand forms (R150). -/
def Instr.alu : AluOp → Src8 → Instr
  | .add, .reg .b => .addAB
  | .add, .reg .c => .addAC
  | .add, .reg .d => .addAD
  | .add, .reg .e => .addAE
  | .add, .reg .h => .addAH
  | .add, .reg .l => .addAL
  | .add, .indHl => .addAIndHl
  | .add, .reg .a => .addAA
  | .adc, .reg .b => .adcAB
  | .adc, .reg .c => .adcAC
  | .adc, .reg .d => .adcAD
  | .adc, .reg .e => .adcAE
  | .adc, .reg .h => .adcAH
  | .adc, .reg .l => .adcAL
  | .adc, .indHl => .adcAIndHl
  | .adc, .reg .a => .adcAA
  | .sub, .reg .b => .subB
  | .sub, .reg .c => .subC
  | .sub, .reg .d => .subD
  | .sub, .reg .e => .subE
  | .sub, .reg .h => .subH
  | .sub, .reg .l => .subL
  | .sub, .indHl => .subIndHl
  | .sub, .reg .a => .subA
  | .sbc, .reg .b => .sbcAB
  | .sbc, .reg .c => .sbcAC
  | .sbc, .reg .d => .sbcAD
  | .sbc, .reg .e => .sbcAE
  | .sbc, .reg .h => .sbcAH
  | .sbc, .reg .l => .sbcAL
  | .sbc, .indHl => .sbcAIndHl
  | .sbc, .reg .a => .sbcAA
  | .and, .reg .b => .andB
  | .and, .reg .c => .andC
  | .and, .reg .d => .andD
  | .and, .reg .e => .andE
  | .and, .reg .h => .andH
  | .and, .reg .l => .andL
  | .and, .indHl => .andIndHl
  | .and, .reg .a => .andA
  | .xor, .reg .b => .xorB
  | .xor, .reg .c => .xorC
  | .xor, .reg .d => .xorD
  | .xor, .reg .e => .xorE
  | .xor, .reg .h => .xorH
  | .xor, .reg .l => .xorL
  | .xor, .indHl => .xorIndHl
  | .xor, .reg .a => .xorA
  | .or, .reg .b => .orB
  | .or, .reg .c => .orC
  | .or, .reg .d => .orD
  | .or, .reg .e => .orE
  | .or, .reg .h => .orH
  | .or, .reg .l => .orL
  | .or, .indHl => .orIndHl
  | .or, .reg .a => .orA
  | .cp, .reg .b => .cpB
  | .cp, .reg .c => .cpC
  | .cp, .reg .d => .cpD
  | .cp, .reg .e => .cpE
  | .cp, .reg .h => .cpH
  | .cp, .reg .l => .cpL
  | .cp, .indHl => .cpIndHl
  | .cp, .reg .a => .cpA
  | .add, .imm n => .addAD8 n
  | .adc, .imm n => .adcAD8 n
  | .sub, .imm n => .subD8 n
  | .sbc, .imm n => .sbcAD8 n
  | .and, .imm n => .andD8 n
  | .xor, .imm n => .xorD8 n
  | .or, .imm n => .orD8 n
  | .cp, .imm n => .cpD8 n

/-- `JP cc,a16` (R202). -/
def Instr.jpCc : Cond → Word → Instr
  | .nz, a => .jpNzA16 a
  | .z, a => .jpZA16 a
  | .nc, a => .jpNcA16 a
  | .c, a => .jpCA16 a

/-- `JR cc,e8` (R205). -/
def Instr.jrCc : Cond → Byte → Instr
  | .nz, e => .jrNzE8 e
  | .z, e => .jrZE8 e
  | .nc, e => .jrNcE8 e
  | .c, e => .jrCE8 e

/-- `CALL cc,a16` (R207). -/
def Instr.callCc : Cond → Word → Instr
  | .nz, a => .callNzA16 a
  | .z, a => .callZA16 a
  | .nc, a => .callNcA16 a
  | .c, a => .callCA16 a

/-- `RET cc` (R209). -/
def Instr.retCc : Cond → Instr
  | .nz => .retNz
  | .z => .retZ
  | .nc => .retNc
  | .c => .retC

/-- `RST y*8` (R211). -/
def Instr.rst : Field3 → Instr
  | .v0 => .rst00h
  | .v1 => .rst08h
  | .v2 => .rst10h
  | .v3 => .rst18h
  | .v4 => .rst20h
  | .v5 => .rst28h
  | .v6 => .rst30h
  | .v7 => .rst38h

/-- `rot[y] r8[z]` of the CB table (R185 to R192). -/
def Instr.rot : RotOp → Opnd8 → Instr
  | .rlc, .reg .b => .rlcB
  | .rlc, .reg .c => .rlcC
  | .rlc, .reg .d => .rlcD
  | .rlc, .reg .e => .rlcE
  | .rlc, .reg .h => .rlcH
  | .rlc, .reg .l => .rlcL
  | .rlc, .indHl => .rlcIndHl
  | .rlc, .reg .a => .rlcA
  | .rrc, .reg .b => .rrcB
  | .rrc, .reg .c => .rrcC
  | .rrc, .reg .d => .rrcD
  | .rrc, .reg .e => .rrcE
  | .rrc, .reg .h => .rrcH
  | .rrc, .reg .l => .rrcL
  | .rrc, .indHl => .rrcIndHl
  | .rrc, .reg .a => .rrcA
  | .rl, .reg .b => .rlB
  | .rl, .reg .c => .rlC
  | .rl, .reg .d => .rlD
  | .rl, .reg .e => .rlE
  | .rl, .reg .h => .rlH
  | .rl, .reg .l => .rlL
  | .rl, .indHl => .rlIndHl
  | .rl, .reg .a => .rlA
  | .rr, .reg .b => .rrB
  | .rr, .reg .c => .rrC
  | .rr, .reg .d => .rrD
  | .rr, .reg .e => .rrE
  | .rr, .reg .h => .rrH
  | .rr, .reg .l => .rrL
  | .rr, .indHl => .rrIndHl
  | .rr, .reg .a => .rrA
  | .sla, .reg .b => .slaB
  | .sla, .reg .c => .slaC
  | .sla, .reg .d => .slaD
  | .sla, .reg .e => .slaE
  | .sla, .reg .h => .slaH
  | .sla, .reg .l => .slaL
  | .sla, .indHl => .slaIndHl
  | .sla, .reg .a => .slaA
  | .sra, .reg .b => .sraB
  | .sra, .reg .c => .sraC
  | .sra, .reg .d => .sraD
  | .sra, .reg .e => .sraE
  | .sra, .reg .h => .sraH
  | .sra, .reg .l => .sraL
  | .sra, .indHl => .sraIndHl
  | .sra, .reg .a => .sraA
  | .swap, .reg .b => .swapB
  | .swap, .reg .c => .swapC
  | .swap, .reg .d => .swapD
  | .swap, .reg .e => .swapE
  | .swap, .reg .h => .swapH
  | .swap, .reg .l => .swapL
  | .swap, .indHl => .swapIndHl
  | .swap, .reg .a => .swapA
  | .srl, .reg .b => .srlB
  | .srl, .reg .c => .srlC
  | .srl, .reg .d => .srlD
  | .srl, .reg .e => .srlE
  | .srl, .reg .h => .srlH
  | .srl, .reg .l => .srlL
  | .srl, .indHl => .srlIndHl
  | .srl, .reg .a => .srlA

/-- `BIT b,r8[z]` of the CB table (R193). -/
def Instr.bit : Field3 → Opnd8 → Instr
  | .v0, .reg .b => .bit0B
  | .v0, .reg .c => .bit0C
  | .v0, .reg .d => .bit0D
  | .v0, .reg .e => .bit0E
  | .v0, .reg .h => .bit0H
  | .v0, .reg .l => .bit0L
  | .v0, .indHl => .bit0IndHl
  | .v0, .reg .a => .bit0A
  | .v1, .reg .b => .bit1B
  | .v1, .reg .c => .bit1C
  | .v1, .reg .d => .bit1D
  | .v1, .reg .e => .bit1E
  | .v1, .reg .h => .bit1H
  | .v1, .reg .l => .bit1L
  | .v1, .indHl => .bit1IndHl
  | .v1, .reg .a => .bit1A
  | .v2, .reg .b => .bit2B
  | .v2, .reg .c => .bit2C
  | .v2, .reg .d => .bit2D
  | .v2, .reg .e => .bit2E
  | .v2, .reg .h => .bit2H
  | .v2, .reg .l => .bit2L
  | .v2, .indHl => .bit2IndHl
  | .v2, .reg .a => .bit2A
  | .v3, .reg .b => .bit3B
  | .v3, .reg .c => .bit3C
  | .v3, .reg .d => .bit3D
  | .v3, .reg .e => .bit3E
  | .v3, .reg .h => .bit3H
  | .v3, .reg .l => .bit3L
  | .v3, .indHl => .bit3IndHl
  | .v3, .reg .a => .bit3A
  | .v4, .reg .b => .bit4B
  | .v4, .reg .c => .bit4C
  | .v4, .reg .d => .bit4D
  | .v4, .reg .e => .bit4E
  | .v4, .reg .h => .bit4H
  | .v4, .reg .l => .bit4L
  | .v4, .indHl => .bit4IndHl
  | .v4, .reg .a => .bit4A
  | .v5, .reg .b => .bit5B
  | .v5, .reg .c => .bit5C
  | .v5, .reg .d => .bit5D
  | .v5, .reg .e => .bit5E
  | .v5, .reg .h => .bit5H
  | .v5, .reg .l => .bit5L
  | .v5, .indHl => .bit5IndHl
  | .v5, .reg .a => .bit5A
  | .v6, .reg .b => .bit6B
  | .v6, .reg .c => .bit6C
  | .v6, .reg .d => .bit6D
  | .v6, .reg .e => .bit6E
  | .v6, .reg .h => .bit6H
  | .v6, .reg .l => .bit6L
  | .v6, .indHl => .bit6IndHl
  | .v6, .reg .a => .bit6A
  | .v7, .reg .b => .bit7B
  | .v7, .reg .c => .bit7C
  | .v7, .reg .d => .bit7D
  | .v7, .reg .e => .bit7E
  | .v7, .reg .h => .bit7H
  | .v7, .reg .l => .bit7L
  | .v7, .indHl => .bit7IndHl
  | .v7, .reg .a => .bit7A

/-- `RES b,r8[z]` of the CB table (R194). -/
def Instr.res : Field3 → Opnd8 → Instr
  | .v0, .reg .b => .res0B
  | .v0, .reg .c => .res0C
  | .v0, .reg .d => .res0D
  | .v0, .reg .e => .res0E
  | .v0, .reg .h => .res0H
  | .v0, .reg .l => .res0L
  | .v0, .indHl => .res0IndHl
  | .v0, .reg .a => .res0A
  | .v1, .reg .b => .res1B
  | .v1, .reg .c => .res1C
  | .v1, .reg .d => .res1D
  | .v1, .reg .e => .res1E
  | .v1, .reg .h => .res1H
  | .v1, .reg .l => .res1L
  | .v1, .indHl => .res1IndHl
  | .v1, .reg .a => .res1A
  | .v2, .reg .b => .res2B
  | .v2, .reg .c => .res2C
  | .v2, .reg .d => .res2D
  | .v2, .reg .e => .res2E
  | .v2, .reg .h => .res2H
  | .v2, .reg .l => .res2L
  | .v2, .indHl => .res2IndHl
  | .v2, .reg .a => .res2A
  | .v3, .reg .b => .res3B
  | .v3, .reg .c => .res3C
  | .v3, .reg .d => .res3D
  | .v3, .reg .e => .res3E
  | .v3, .reg .h => .res3H
  | .v3, .reg .l => .res3L
  | .v3, .indHl => .res3IndHl
  | .v3, .reg .a => .res3A
  | .v4, .reg .b => .res4B
  | .v4, .reg .c => .res4C
  | .v4, .reg .d => .res4D
  | .v4, .reg .e => .res4E
  | .v4, .reg .h => .res4H
  | .v4, .reg .l => .res4L
  | .v4, .indHl => .res4IndHl
  | .v4, .reg .a => .res4A
  | .v5, .reg .b => .res5B
  | .v5, .reg .c => .res5C
  | .v5, .reg .d => .res5D
  | .v5, .reg .e => .res5E
  | .v5, .reg .h => .res5H
  | .v5, .reg .l => .res5L
  | .v5, .indHl => .res5IndHl
  | .v5, .reg .a => .res5A
  | .v6, .reg .b => .res6B
  | .v6, .reg .c => .res6C
  | .v6, .reg .d => .res6D
  | .v6, .reg .e => .res6E
  | .v6, .reg .h => .res6H
  | .v6, .reg .l => .res6L
  | .v6, .indHl => .res6IndHl
  | .v6, .reg .a => .res6A
  | .v7, .reg .b => .res7B
  | .v7, .reg .c => .res7C
  | .v7, .reg .d => .res7D
  | .v7, .reg .e => .res7E
  | .v7, .reg .h => .res7H
  | .v7, .reg .l => .res7L
  | .v7, .indHl => .res7IndHl
  | .v7, .reg .a => .res7A

/-- `SET b,r8[z]` of the CB table (R195). -/
def Instr.set : Field3 → Opnd8 → Instr
  | .v0, .reg .b => .set0B
  | .v0, .reg .c => .set0C
  | .v0, .reg .d => .set0D
  | .v0, .reg .e => .set0E
  | .v0, .reg .h => .set0H
  | .v0, .reg .l => .set0L
  | .v0, .indHl => .set0IndHl
  | .v0, .reg .a => .set0A
  | .v1, .reg .b => .set1B
  | .v1, .reg .c => .set1C
  | .v1, .reg .d => .set1D
  | .v1, .reg .e => .set1E
  | .v1, .reg .h => .set1H
  | .v1, .reg .l => .set1L
  | .v1, .indHl => .set1IndHl
  | .v1, .reg .a => .set1A
  | .v2, .reg .b => .set2B
  | .v2, .reg .c => .set2C
  | .v2, .reg .d => .set2D
  | .v2, .reg .e => .set2E
  | .v2, .reg .h => .set2H
  | .v2, .reg .l => .set2L
  | .v2, .indHl => .set2IndHl
  | .v2, .reg .a => .set2A
  | .v3, .reg .b => .set3B
  | .v3, .reg .c => .set3C
  | .v3, .reg .d => .set3D
  | .v3, .reg .e => .set3E
  | .v3, .reg .h => .set3H
  | .v3, .reg .l => .set3L
  | .v3, .indHl => .set3IndHl
  | .v3, .reg .a => .set3A
  | .v4, .reg .b => .set4B
  | .v4, .reg .c => .set4C
  | .v4, .reg .d => .set4D
  | .v4, .reg .e => .set4E
  | .v4, .reg .h => .set4H
  | .v4, .reg .l => .set4L
  | .v4, .indHl => .set4IndHl
  | .v4, .reg .a => .set4A
  | .v5, .reg .b => .set5B
  | .v5, .reg .c => .set5C
  | .v5, .reg .d => .set5D
  | .v5, .reg .e => .set5E
  | .v5, .reg .h => .set5H
  | .v5, .reg .l => .set5L
  | .v5, .indHl => .set5IndHl
  | .v5, .reg .a => .set5A
  | .v6, .reg .b => .set6B
  | .v6, .reg .c => .set6C
  | .v6, .reg .d => .set6D
  | .v6, .reg .e => .set6E
  | .v6, .reg .h => .set6H
  | .v6, .reg .l => .set6L
  | .v6, .indHl => .set6IndHl
  | .v6, .reg .a => .set6A
  | .v7, .reg .b => .set7B
  | .v7, .reg .c => .set7C
  | .v7, .reg .d => .set7D
  | .v7, .reg .e => .set7E
  | .v7, .reg .h => .set7H
  | .v7, .reg .l => .set7L
  | .v7, .indHl => .set7IndHl
  | .v7, .reg .a => .set7A

end Sys2Proof
end

