-- ==== Sys2Proof/WellFormed.lean ====
section
/-! DEFINITION. Which terms of `Instr` stand for a whole instruction of the opcode maps. -/

namespace Sys2Proof

/-- Every operand of `Instr` ranges over all the values its field admits (30_encoding.md R91 to R94), so one check is
left: the row PREFIX_CB is the byte that selects the second table, not an instruction of its own (30_encoding.md R96); the bytes
of `.prefixCb op2` are those of the row of the CB table at `op2`, whose constructor is the well-formed term for them. -/
def Instr.wellFormed : Instr → Bool
  | .prefixCb _ => false
  | _ => true

end Sys2Proof
end

