-- ==== Sys2Proof/Decode.lean ====
section
/-! DEFINITION. The byte helpers, the descriptors (30_encoding.md R101), the decoder by opcode fields (R82 to R90, R96,
R112, R113), and the encoder by opcode values (the grids of R112, R113). -/

namespace Sys2Proof

/-- `hi : lo` (00_scope.md R5). -/
def word16 (hi lo : Byte) : Word := hi ++ lo

/-- `v[15:8]`. -/
def hiByte (v : Word) : Byte := v.extractLsb' 8 8

/-- `v[7:0]`. -/
def loByte (v : Word) : Byte := v.extractLsb' 0 8

/-- `sext_16(v)` (00_scope.md R6). -/
def sext16 (v : Byte) : Word := v.signExtend 16

/-- The formats of 30_encoding.md R81. -/
inductive Format where
  | f1 | f2 | f3 | fcb
deriving DecidableEq, Repr

/-- What a descriptor says of one flag (30_encoding.md R101): `-`, `0`, `1`, or the flag's letter. -/
inductive FlagPolicy where
  | keep | clear | set | computed
deriving DecidableEq, Repr

/-- The flag policy for Z, N, H, C (30_encoding.md R101). -/
structure FlagRow where
  z : FlagPolicy
  n : FlagPolicy
  h : FlagPolicy
  c : FlagPolicy
deriving DecidableEq, Repr

/-- The descriptor of 30_encoding.md R101; its mnemonic and operands are the constructor of `Instr`. The table gives the
illegal opcodes and the CB byte no cycles, and the CB byte no flags. -/
structure Descriptor where
  format : Format
  length : Nat
  cycles : Option Nat
  cyclesNotTaken : Option Nat
  flags : Option FlagRow
deriving DecidableEq, Repr

/-- The descriptor of every row of spec/opcode_table.json (30_encoding.md R101). -/
def Instr.descriptor : Instr → Descriptor
  | .nop | .ldBB | .ldBC | .ldBD | .ldBE | .ldBH | .ldBL | .ldBA | .ldCB | .ldCC | .ldCD | .ldCE | .ldCH | .ldCL
  | .ldCA | .ldDB | .ldDC | .ldDD | .ldDE | .ldDH | .ldDL | .ldDA | .ldEB | .ldEC | .ldED | .ldEE | .ldEH | .ldEL
  | .ldEA | .ldHB | .ldHC | .ldHD | .ldHE | .ldHH | .ldHL | .ldHA | .ldLB | .ldLC | .ldLD | .ldLE | .ldLH | .ldLL
  | .ldLA | .halt | .ldAB | .ldAC | .ldAD | .ldAE | .ldAH | .ldAL | .ldAA | .jpHl | .di | .ei
    => ⟨.f1, 1, some 4, none, some ⟨.keep, .keep, .keep, .keep⟩⟩
  | .ldBcD16 _ | .ldDeD16 _ | .ldHlD16 _ | .ldSpD16 _
    => ⟨.f3, 3, some 12, none, some ⟨.keep, .keep, .keep, .keep⟩⟩
  | .ldIndBcA | .incBc | .ldAIndBc | .decBc | .ldIndDeA | .incDe | .ldAIndDe | .decDe | .ldIndHlIncA | .incHl
  | .ldAIndHlInc | .decHl | .ldIndHlDecA | .incSp | .ldAIndHlDec | .decSp | .ldBIndHl | .ldCIndHl | .ldDIndHl
  | .ldEIndHl | .ldHIndHl | .ldLIndHl | .ldIndHlB | .ldIndHlC | .ldIndHlD | .ldIndHlE | .ldIndHlH | .ldIndHlL
  | .ldIndHlA | .ldAIndHl | .ldhIndCA | .ldhAIndC | .ldSpHl
    => ⟨.f1, 1, some 8, none, some ⟨.keep, .keep, .keep, .keep⟩⟩
  | .incB | .incC | .incD | .incE | .incH | .incL | .incA
    => ⟨.f1, 1, some 4, none, some ⟨.computed, .clear, .computed, .keep⟩⟩
  | .decB | .decC | .decD | .decE | .decH | .decL | .decA
    => ⟨.f1, 1, some 4, none, some ⟨.computed, .set, .computed, .keep⟩⟩
  | .ldBD8 _ | .ldCD8 _ | .ldDD8 _ | .ldED8 _ | .ldHD8 _ | .ldLD8 _ | .ldAD8 _
    => ⟨.f2, 2, some 8, none, some ⟨.keep, .keep, .keep, .keep⟩⟩
  | .rlca | .rrca | .rla | .rra
    => ⟨.f1, 1, some 4, none, some ⟨.clear, .clear, .clear, .computed⟩⟩
  | .ldIndA16Sp _
    => ⟨.f3, 3, some 20, none, some ⟨.keep, .keep, .keep, .keep⟩⟩
  | .addHlBc | .addHlDe | .addHlHl | .addHlSp
    => ⟨.f1, 1, some 8, none, some ⟨.keep, .clear, .computed, .computed⟩⟩
  | .stop _
    => ⟨.f2, 2, some 4, none, some ⟨.keep, .keep, .keep, .keep⟩⟩
  | .jrE8 _ | .ldIndHlD8 _ | .ldhIndA8A _ | .ldhAIndA8 _
    => ⟨.f2, 2, some 12, none, some ⟨.keep, .keep, .keep, .keep⟩⟩
  | .jrNzE8 _ | .jrZE8 _ | .jrNcE8 _ | .jrCE8 _
    => ⟨.f2, 2, some 12, some 8, some ⟨.keep, .keep, .keep, .keep⟩⟩
  | .daa
    => ⟨.f1, 1, some 4, none, some ⟨.computed, .keep, .clear, .computed⟩⟩
  | .cpl
    => ⟨.f1, 1, some 4, none, some ⟨.keep, .set, .set, .keep⟩⟩
  | .incIndHl
    => ⟨.f1, 1, some 12, none, some ⟨.computed, .clear, .computed, .keep⟩⟩
  | .decIndHl
    => ⟨.f1, 1, some 12, none, some ⟨.computed, .set, .computed, .keep⟩⟩
  | .scf
    => ⟨.f1, 1, some 4, none, some ⟨.keep, .clear, .clear, .set⟩⟩
  | .ccf
    => ⟨.f1, 1, some 4, none, some ⟨.keep, .clear, .clear, .computed⟩⟩
  | .addAB | .addAC | .addAD | .addAE | .addAH | .addAL | .addAA | .adcAB | .adcAC | .adcAD | .adcAE | .adcAH
  | .adcAL | .adcAA
    => ⟨.f1, 1, some 4, none, some ⟨.computed, .clear, .computed, .computed⟩⟩
  | .addAIndHl | .adcAIndHl
    => ⟨.f1, 1, some 8, none, some ⟨.computed, .clear, .computed, .computed⟩⟩
  | .subB | .subC | .subD | .subE | .subH | .subL | .subA | .sbcAB | .sbcAC | .sbcAD | .sbcAE | .sbcAH | .sbcAL
  | .sbcAA | .cpB | .cpC | .cpD | .cpE | .cpH | .cpL | .cpA
    => ⟨.f1, 1, some 4, none, some ⟨.computed, .set, .computed, .computed⟩⟩
  | .subIndHl | .sbcAIndHl | .cpIndHl
    => ⟨.f1, 1, some 8, none, some ⟨.computed, .set, .computed, .computed⟩⟩
  | .andB | .andC | .andD | .andE | .andH | .andL | .andA
    => ⟨.f1, 1, some 4, none, some ⟨.computed, .clear, .set, .clear⟩⟩
  | .andIndHl
    => ⟨.f1, 1, some 8, none, some ⟨.computed, .clear, .set, .clear⟩⟩
  | .xorB | .xorC | .xorD | .xorE | .xorH | .xorL | .xorA | .orB | .orC | .orD | .orE | .orH | .orL | .orA
    => ⟨.f1, 1, some 4, none, some ⟨.computed, .clear, .clear, .clear⟩⟩
  | .xorIndHl | .orIndHl
    => ⟨.f1, 1, some 8, none, some ⟨.computed, .clear, .clear, .clear⟩⟩
  | .retNz | .retZ | .retNc | .retC
    => ⟨.f1, 1, some 20, some 8, some ⟨.keep, .keep, .keep, .keep⟩⟩
  | .popBc | .popDe | .popHl
    => ⟨.f1, 1, some 12, none, some ⟨.keep, .keep, .keep, .keep⟩⟩
  | .jpNzA16 _ | .jpZA16 _ | .jpNcA16 _ | .jpCA16 _
    => ⟨.f3, 3, some 16, some 12, some ⟨.keep, .keep, .keep, .keep⟩⟩
  | .jpA16 _ | .ldIndA16A _ | .ldAIndA16 _
    => ⟨.f3, 3, some 16, none, some ⟨.keep, .keep, .keep, .keep⟩⟩
  | .callNzA16 _ | .callZA16 _ | .callNcA16 _ | .callCA16 _
    => ⟨.f3, 3, some 24, some 12, some ⟨.keep, .keep, .keep, .keep⟩⟩
  | .pushBc | .rst00h | .ret | .rst08h | .pushDe | .rst10h | .reti | .rst18h | .pushHl | .rst20h | .rst28h | .pushAf
  | .rst30h | .rst38h
    => ⟨.f1, 1, some 16, none, some ⟨.keep, .keep, .keep, .keep⟩⟩
  | .addAD8 _ | .adcAD8 _
    => ⟨.f2, 2, some 8, none, some ⟨.computed, .clear, .computed, .computed⟩⟩
  | .prefixCb _
    => ⟨.fcb, 2, none, none, none⟩
  | .callA16 _
    => ⟨.f3, 3, some 24, none, some ⟨.keep, .keep, .keep, .keep⟩⟩
  | .illegalD3 | .illegalDB | .illegalDD | .illegalE3 | .illegalE4 | .illegalEB | .illegalEC | .illegalED
  | .illegalF4 | .illegalFC | .illegalFD
    => ⟨.f1, 1, none, none, some ⟨.keep, .keep, .keep, .keep⟩⟩
  | .subD8 _ | .sbcAD8 _ | .cpD8 _
    => ⟨.f2, 2, some 8, none, some ⟨.computed, .set, .computed, .computed⟩⟩
  | .andD8 _
    => ⟨.f2, 2, some 8, none, some ⟨.computed, .clear, .set, .clear⟩⟩
  | .addSpE8 _
    => ⟨.f2, 2, some 16, none, some ⟨.clear, .clear, .computed, .computed⟩⟩
  | .xorD8 _ | .orD8 _
    => ⟨.f2, 2, some 8, none, some ⟨.computed, .clear, .clear, .clear⟩⟩
  | .popAf
    => ⟨.f1, 1, some 12, none, some ⟨.computed, .computed, .computed, .computed⟩⟩
  | .ldHlSpE8 _
    => ⟨.f2, 2, some 12, none, some ⟨.clear, .clear, .computed, .computed⟩⟩
  | .rlcB | .rlcC | .rlcD | .rlcE | .rlcH | .rlcL | .rlcA | .rrcB | .rrcC | .rrcD | .rrcE | .rrcH | .rrcL | .rrcA
  | .rlB | .rlC | .rlD | .rlE | .rlH | .rlL | .rlA | .rrB | .rrC | .rrD | .rrE | .rrH | .rrL | .rrA | .slaB | .slaC
  | .slaD | .slaE | .slaH | .slaL | .slaA | .sraB | .sraC | .sraD | .sraE | .sraH | .sraL | .sraA | .srlB | .srlC
  | .srlD | .srlE | .srlH | .srlL | .srlA
    => ⟨.fcb, 2, some 8, none, some ⟨.computed, .clear, .clear, .computed⟩⟩
  | .rlcIndHl | .rrcIndHl | .rlIndHl | .rrIndHl | .slaIndHl | .sraIndHl | .srlIndHl
    => ⟨.fcb, 2, some 16, none, some ⟨.computed, .clear, .clear, .computed⟩⟩
  | .swapB | .swapC | .swapD | .swapE | .swapH | .swapL | .swapA
    => ⟨.fcb, 2, some 8, none, some ⟨.computed, .clear, .clear, .clear⟩⟩
  | .swapIndHl
    => ⟨.fcb, 2, some 16, none, some ⟨.computed, .clear, .clear, .clear⟩⟩
  | .bit0B | .bit0C | .bit0D | .bit0E | .bit0H | .bit0L | .bit0A | .bit1B | .bit1C | .bit1D | .bit1E | .bit1H
  | .bit1L | .bit1A | .bit2B | .bit2C | .bit2D | .bit2E | .bit2H | .bit2L | .bit2A | .bit3B | .bit3C | .bit3D
  | .bit3E | .bit3H | .bit3L | .bit3A | .bit4B | .bit4C | .bit4D | .bit4E | .bit4H | .bit4L | .bit4A | .bit5B
  | .bit5C | .bit5D | .bit5E | .bit5H | .bit5L | .bit5A | .bit6B | .bit6C | .bit6D | .bit6E | .bit6H | .bit6L
  | .bit6A | .bit7B | .bit7C | .bit7D | .bit7E | .bit7H | .bit7L | .bit7A
    => ⟨.fcb, 2, some 8, none, some ⟨.computed, .clear, .set, .keep⟩⟩
  | .bit0IndHl | .bit1IndHl | .bit2IndHl | .bit3IndHl | .bit4IndHl | .bit5IndHl | .bit6IndHl | .bit7IndHl
    => ⟨.fcb, 2, some 12, none, some ⟨.computed, .clear, .set, .keep⟩⟩
  | .res0B | .res0C | .res0D | .res0E | .res0H | .res0L | .res0A | .res1B | .res1C | .res1D | .res1E | .res1H
  | .res1L | .res1A | .res2B | .res2C | .res2D | .res2E | .res2H | .res2L | .res2A | .res3B | .res3C | .res3D
  | .res3E | .res3H | .res3L | .res3A | .res4B | .res4C | .res4D | .res4E | .res4H | .res4L | .res4A | .res5B
  | .res5C | .res5D | .res5E | .res5H | .res5L | .res5A | .res6B | .res6C | .res6D | .res6E | .res6H | .res6L
  | .res6A | .res7B | .res7C | .res7D | .res7E | .res7H | .res7L | .res7A | .set0B | .set0C | .set0D | .set0E
  | .set0H | .set0L | .set0A | .set1B | .set1C | .set1D | .set1E | .set1H | .set1L | .set1A | .set2B | .set2C
  | .set2D | .set2E | .set2H | .set2L | .set2A | .set3B | .set3C | .set3D | .set3E | .set3H | .set3L | .set3A
  | .set4B | .set4C | .set4D | .set4E | .set4H | .set4L | .set4A | .set5B | .set5C | .set5D | .set5E | .set5H
  | .set5L | .set5A | .set6B | .set6C | .set6D | .set6E | .set6H | .set6L | .set6A | .set7B | .set7C | .set7D
  | .set7E | .set7H | .set7L | .set7A
    => ⟨.fcb, 2, some 8, none, some ⟨.keep, .keep, .keep, .keep⟩⟩
  | .res0IndHl | .res1IndHl | .res2IndHl | .res3IndHl | .res4IndHl | .res5IndHl | .res6IndHl | .res7IndHl
  | .set0IndHl | .set1IndHl | .set2IndHl | .set3IndHl | .set4IndHl | .set5IndHl | .set6IndHl | .set7IndHl
    => ⟨.fcb, 2, some 16, none, some ⟨.keep, .keep, .keep, .keep⟩⟩

/-- A two-bit field of an opcode, its low bit at `lo` (30_encoding.md R82). -/
def field2 (op : Byte) (lo : Nat) : Field2 :=
  match op.getLsbD (lo + 1), op.getLsbD lo with
  | false, false => .v0
  | false, true => .v1
  | true, false => .v2
  | true, true => .v3

/-- A three-bit field of an opcode, its low bit at `lo` (30_encoding.md R82). -/
def field3 (op : Byte) (lo : Nat) : Field3 :=
  match op.getLsbD (lo + 2), op.getLsbD (lo + 1), op.getLsbD lo with
  | false, false, false => .v0
  | false, false, true => .v1
  | false, true, false => .v2
  | false, true, true => .v3
  | true, false, false => .v4
  | true, false, true => .v5
  | true, true, false => .v6
  | true, true, true => .v7

/-- `r8[n]` (30_encoding.md R83). -/
def opnd8 : Field3 → Opnd8
  | .v0 => .reg .b
  | .v1 => .reg .c
  | .v2 => .reg .d
  | .v3 => .reg .e
  | .v4 => .reg .h
  | .v5 => .reg .l
  | .v6 => .indHl
  | .v7 => .reg .a

/-- `r8[n]` as the second operand of the ALU group (43_alu8.md R150). -/
def Opnd8.src : Opnd8 → Src8
  | .reg r => .reg r
  | .indHl => .indHl

/-- `rp[p]` (30_encoding.md R84). -/
def rp : Field2 → Rp
  | .v0 => .bc
  | .v1 => .de
  | .v2 => .hl
  | .v3 => .sp

/-- `rp2[p]` (30_encoding.md R85). -/
def rp2 : Field2 → Rp2
  | .v0 => .bc
  | .v1 => .de
  | .v2 => .hl
  | .v3 => .af

/-- `alu[y]` (30_encoding.md R87). -/
def aluOfField : Field3 → AluOp
  | .v0 => .add
  | .v1 => .adc
  | .v2 => .sub
  | .v3 => .sbc
  | .v4 => .and
  | .v5 => .xor
  | .v6 => .or
  | .v7 => .cp

/-- `rot[y]` (30_encoding.md R88). -/
def rotOfField : Field3 → RotOp
  | .v0 => .rlc
  | .v1 => .rrc
  | .v2 => .rl
  | .v3 => .rr
  | .v4 => .sla
  | .v5 => .sra
  | .v6 => .swap
  | .v7 => .srl

/-- `CB_TABLE[op2]` (30_encoding.md R89, R98, R113): all 256 values are instructions. -/
def decodeCb (op2 : Byte) : Instr :=
  let y := field3 op2 3
  let o := opnd8 (field3 op2 0)
  match field2 op2 6 with
  | .v0 => .rot (rotOfField y) o
  | .v1 => .bit y o
  | .v2 => .res y o
  | .v3 => .set y o

/-- `BASE_TABLE[op]` with the immediate bytes that follow the opcode, by the fields x, z, y, p of 30_encoding.md R112.
The byte 0xCB gives the row PREFIX_CB with the second opcode byte; the eleven values of R97 give their illegal rows. -/
def decodeBase (op b1 b2 : Byte) : Instr :=
  let y := field3 op 3
  let z := field3 op 0
  let p := field2 op 4
  let n16 := word16 b2 b1
  match field2 op 6 with
  | .v0 =>
    match z with
    | .v0 =>
      match y with
      | .v0 => .nop
      | .v1 => .ldIndA16Sp n16
      | .v2 => .stop b1
      | .v3 => .jrE8 b1
      | .v4 => .jrCc .nz b1
      | .v5 => .jrCc .z b1
      | .v6 => .jrCc .nc b1
      | .v7 => .jrCc .c b1
    | .v1 => if op.getLsbD 3 then .addHl (rp p) else .ldRp (rp p) n16
    | .v2 =>
      match y with
      | .v0 => .ldIndBcA
      | .v1 => .ldAIndBc
      | .v2 => .ldIndDeA
      | .v3 => .ldAIndDe
      | .v4 => .ldIndHlIncA
      | .v5 => .ldAIndHlInc
      | .v6 => .ldIndHlDecA
      | .v7 => .ldAIndHlDec
    | .v3 => if op.getLsbD 3 then .decRp (rp p) else .incRp (rp p)
    | .v4 => .inc (opnd8 y)
    | .v5 => .dec (opnd8 y)
    | .v6 => .ldImm (opnd8 y) b1
    | .v7 =>
      match y with
      | .v0 => .rlca
      | .v1 => .rrca
      | .v2 => .rla
      | .v3 => .rra
      | .v4 => .daa
      | .v5 => .cpl
      | .v6 => .scf
      | .v7 => .ccf
  | .v1 => .ld (opnd8 y) (opnd8 z)
  | .v2 => .alu (aluOfField y) (opnd8 z).src
  | .v3 =>
    match z with
    | .v0 =>
      match y with
      | .v0 => .retCc .nz
      | .v1 => .retCc .z
      | .v2 => .retCc .nc
      | .v3 => .retCc .c
      | .v4 => .ldhIndA8A b1
      | .v5 => .addSpE8 b1
      | .v6 => .ldhAIndA8 b1
      | .v7 => .ldHlSpE8 b1
    | .v1 =>
      if op.getLsbD 3 then
        match p with
        | .v0 => .ret
        | .v1 => .reti
        | .v2 => .jpHl
        | .v3 => .ldSpHl
      else .pop (rp2 p)
    | .v2 =>
      match y with
      | .v0 => .jpCc .nz n16
      | .v1 => .jpCc .z n16
      | .v2 => .jpCc .nc n16
      | .v3 => .jpCc .c n16
      | .v4 => .ldhIndCA
      | .v5 => .ldIndA16A n16
      | .v6 => .ldhAIndC
      | .v7 => .ldAIndA16 n16
    | .v3 =>
      match y with
      | .v0 => .jpA16 n16
      | .v1 => .prefixCb b1
      | .v2 => .illegalD3
      | .v3 => .illegalDB
      | .v4 => .illegalE3
      | .v5 => .illegalEB
      | .v6 => .di
      | .v7 => .ei
    | .v4 =>
      match y with
      | .v0 => .callCc .nz n16
      | .v1 => .callCc .z n16
      | .v2 => .callCc .nc n16
      | .v3 => .callCc .c n16
      | .v4 => .illegalE4
      | .v5 => .illegalEC
      | .v6 => .illegalF4
      | .v7 => .illegalFC
    | .v5 =>
      if op.getLsbD 3 then
        match p with
        | .v0 => .callA16 n16
        | .v1 => .illegalDD
        | .v2 => .illegalED
        | .v3 => .illegalFD
      else .push (rp2 p)
    | .v6 => .alu (aluOfField y) (.imm b1)
    | .v7 => .rst y

/-- The length of the instruction whose first byte is `op`, from its descriptor (30_encoding.md R80). -/
def baseLength (op : Byte) : Nat := (decodeBase op 0#8 0#8).descriptor.length

/-- Why bytes are no instruction: every first byte is a row of the base table, so only a missing byte is left. -/
inductive DecodeError where
  | truncated
deriving DecidableEq, Repr

/-- The instruction at the head of a byte sequence, and the bytes after it (30_encoding.md R80, R96, R108). Total on any
bytes; an illegal opcode decodes to its own row. -/
def decode : List Byte → Except DecodeError (Instr × List Byte)
  | [] => .error .truncated
  | op :: rest =>
    if op = 0xCB#8 then
      match rest with
      | op2 :: rest => .ok (decodeCb op2, rest)
      | [] => .error .truncated
    else
      match baseLength op, rest with
      | 1, rest => .ok (decodeBase op 0#8 0#8, rest)
      | 2, b1 :: rest => .ok (decodeBase op b1 0#8, rest)
      | 3, b1 :: b2 :: rest => .ok (decodeBase op b1 b2, rest)
      | _, _ => .error .truncated

/-- The bytes of an instruction, lowest address first: the opcode grids of 30_encoding.md R112, R113 and the formats of R81. -/
def encode : Instr → List Byte
  | .nop => [0x00#8]
  | .ldBcD16 n => [0x01#8, loByte n, hiByte n]
  | .ldIndBcA => [0x02#8]
  | .incBc => [0x03#8]
  | .incB => [0x04#8]
  | .decB => [0x05#8]
  | .ldBD8 n => [0x06#8, n]
  | .rlca => [0x07#8]
  | .ldIndA16Sp a => [0x08#8, loByte a, hiByte a]
  | .addHlBc => [0x09#8]
  | .ldAIndBc => [0x0A#8]
  | .decBc => [0x0B#8]
  | .incC => [0x0C#8]
  | .decC => [0x0D#8]
  | .ldCD8 n => [0x0E#8, n]
  | .rrca => [0x0F#8]
  | .stop x => [0x10#8, x]
  | .ldDeD16 n => [0x11#8, loByte n, hiByte n]
  | .ldIndDeA => [0x12#8]
  | .incDe => [0x13#8]
  | .incD => [0x14#8]
  | .decD => [0x15#8]
  | .ldDD8 n => [0x16#8, n]
  | .rla => [0x17#8]
  | .jrE8 e => [0x18#8, e]
  | .addHlDe => [0x19#8]
  | .ldAIndDe => [0x1A#8]
  | .decDe => [0x1B#8]
  | .incE => [0x1C#8]
  | .decE => [0x1D#8]
  | .ldED8 n => [0x1E#8, n]
  | .rra => [0x1F#8]
  | .jrNzE8 e => [0x20#8, e]
  | .ldHlD16 n => [0x21#8, loByte n, hiByte n]
  | .ldIndHlIncA => [0x22#8]
  | .incHl => [0x23#8]
  | .incH => [0x24#8]
  | .decH => [0x25#8]
  | .ldHD8 n => [0x26#8, n]
  | .daa => [0x27#8]
  | .jrZE8 e => [0x28#8, e]
  | .addHlHl => [0x29#8]
  | .ldAIndHlInc => [0x2A#8]
  | .decHl => [0x2B#8]
  | .incL => [0x2C#8]
  | .decL => [0x2D#8]
  | .ldLD8 n => [0x2E#8, n]
  | .cpl => [0x2F#8]
  | .jrNcE8 e => [0x30#8, e]
  | .ldSpD16 n => [0x31#8, loByte n, hiByte n]
  | .ldIndHlDecA => [0x32#8]
  | .incSp => [0x33#8]
  | .incIndHl => [0x34#8]
  | .decIndHl => [0x35#8]
  | .ldIndHlD8 n => [0x36#8, n]
  | .scf => [0x37#8]
  | .jrCE8 e => [0x38#8, e]
  | .addHlSp => [0x39#8]
  | .ldAIndHlDec => [0x3A#8]
  | .decSp => [0x3B#8]
  | .incA => [0x3C#8]
  | .decA => [0x3D#8]
  | .ldAD8 n => [0x3E#8, n]
  | .ccf => [0x3F#8]
  | .ldBB => [0x40#8]
  | .ldBC => [0x41#8]
  | .ldBD => [0x42#8]
  | .ldBE => [0x43#8]
  | .ldBH => [0x44#8]
  | .ldBL => [0x45#8]
  | .ldBIndHl => [0x46#8]
  | .ldBA => [0x47#8]
  | .ldCB => [0x48#8]
  | .ldCC => [0x49#8]
  | .ldCD => [0x4A#8]
  | .ldCE => [0x4B#8]
  | .ldCH => [0x4C#8]
  | .ldCL => [0x4D#8]
  | .ldCIndHl => [0x4E#8]
  | .ldCA => [0x4F#8]
  | .ldDB => [0x50#8]
  | .ldDC => [0x51#8]
  | .ldDD => [0x52#8]
  | .ldDE => [0x53#8]
  | .ldDH => [0x54#8]
  | .ldDL => [0x55#8]
  | .ldDIndHl => [0x56#8]
  | .ldDA => [0x57#8]
  | .ldEB => [0x58#8]
  | .ldEC => [0x59#8]
  | .ldED => [0x5A#8]
  | .ldEE => [0x5B#8]
  | .ldEH => [0x5C#8]
  | .ldEL => [0x5D#8]
  | .ldEIndHl => [0x5E#8]
  | .ldEA => [0x5F#8]
  | .ldHB => [0x60#8]
  | .ldHC => [0x61#8]
  | .ldHD => [0x62#8]
  | .ldHE => [0x63#8]
  | .ldHH => [0x64#8]
  | .ldHL => [0x65#8]
  | .ldHIndHl => [0x66#8]
  | .ldHA => [0x67#8]
  | .ldLB => [0x68#8]
  | .ldLC => [0x69#8]
  | .ldLD => [0x6A#8]
  | .ldLE => [0x6B#8]
  | .ldLH => [0x6C#8]
  | .ldLL => [0x6D#8]
  | .ldLIndHl => [0x6E#8]
  | .ldLA => [0x6F#8]
  | .ldIndHlB => [0x70#8]
  | .ldIndHlC => [0x71#8]
  | .ldIndHlD => [0x72#8]
  | .ldIndHlE => [0x73#8]
  | .ldIndHlH => [0x74#8]
  | .ldIndHlL => [0x75#8]
  | .halt => [0x76#8]
  | .ldIndHlA => [0x77#8]
  | .ldAB => [0x78#8]
  | .ldAC => [0x79#8]
  | .ldAD => [0x7A#8]
  | .ldAE => [0x7B#8]
  | .ldAH => [0x7C#8]
  | .ldAL => [0x7D#8]
  | .ldAIndHl => [0x7E#8]
  | .ldAA => [0x7F#8]
  | .addAB => [0x80#8]
  | .addAC => [0x81#8]
  | .addAD => [0x82#8]
  | .addAE => [0x83#8]
  | .addAH => [0x84#8]
  | .addAL => [0x85#8]
  | .addAIndHl => [0x86#8]
  | .addAA => [0x87#8]
  | .adcAB => [0x88#8]
  | .adcAC => [0x89#8]
  | .adcAD => [0x8A#8]
  | .adcAE => [0x8B#8]
  | .adcAH => [0x8C#8]
  | .adcAL => [0x8D#8]
  | .adcAIndHl => [0x8E#8]
  | .adcAA => [0x8F#8]
  | .subB => [0x90#8]
  | .subC => [0x91#8]
  | .subD => [0x92#8]
  | .subE => [0x93#8]
  | .subH => [0x94#8]
  | .subL => [0x95#8]
  | .subIndHl => [0x96#8]
  | .subA => [0x97#8]
  | .sbcAB => [0x98#8]
  | .sbcAC => [0x99#8]
  | .sbcAD => [0x9A#8]
  | .sbcAE => [0x9B#8]
  | .sbcAH => [0x9C#8]
  | .sbcAL => [0x9D#8]
  | .sbcAIndHl => [0x9E#8]
  | .sbcAA => [0x9F#8]
  | .andB => [0xA0#8]
  | .andC => [0xA1#8]
  | .andD => [0xA2#8]
  | .andE => [0xA3#8]
  | .andH => [0xA4#8]
  | .andL => [0xA5#8]
  | .andIndHl => [0xA6#8]
  | .andA => [0xA7#8]
  | .xorB => [0xA8#8]
  | .xorC => [0xA9#8]
  | .xorD => [0xAA#8]
  | .xorE => [0xAB#8]
  | .xorH => [0xAC#8]
  | .xorL => [0xAD#8]
  | .xorIndHl => [0xAE#8]
  | .xorA => [0xAF#8]
  | .orB => [0xB0#8]
  | .orC => [0xB1#8]
  | .orD => [0xB2#8]
  | .orE => [0xB3#8]
  | .orH => [0xB4#8]
  | .orL => [0xB5#8]
  | .orIndHl => [0xB6#8]
  | .orA => [0xB7#8]
  | .cpB => [0xB8#8]
  | .cpC => [0xB9#8]
  | .cpD => [0xBA#8]
  | .cpE => [0xBB#8]
  | .cpH => [0xBC#8]
  | .cpL => [0xBD#8]
  | .cpIndHl => [0xBE#8]
  | .cpA => [0xBF#8]
  | .retNz => [0xC0#8]
  | .popBc => [0xC1#8]
  | .jpNzA16 a => [0xC2#8, loByte a, hiByte a]
  | .jpA16 a => [0xC3#8, loByte a, hiByte a]
  | .callNzA16 a => [0xC4#8, loByte a, hiByte a]
  | .pushBc => [0xC5#8]
  | .addAD8 n => [0xC6#8, n]
  | .rst00h => [0xC7#8]
  | .retZ => [0xC8#8]
  | .ret => [0xC9#8]
  | .jpZA16 a => [0xCA#8, loByte a, hiByte a]
  | .prefixCb op2 => [0xCB#8, op2]
  | .callZA16 a => [0xCC#8, loByte a, hiByte a]
  | .callA16 a => [0xCD#8, loByte a, hiByte a]
  | .adcAD8 n => [0xCE#8, n]
  | .rst08h => [0xCF#8]
  | .retNc => [0xD0#8]
  | .popDe => [0xD1#8]
  | .jpNcA16 a => [0xD2#8, loByte a, hiByte a]
  | .illegalD3 => [0xD3#8]
  | .callNcA16 a => [0xD4#8, loByte a, hiByte a]
  | .pushDe => [0xD5#8]
  | .subD8 n => [0xD6#8, n]
  | .rst10h => [0xD7#8]
  | .retC => [0xD8#8]
  | .reti => [0xD9#8]
  | .jpCA16 a => [0xDA#8, loByte a, hiByte a]
  | .illegalDB => [0xDB#8]
  | .callCA16 a => [0xDC#8, loByte a, hiByte a]
  | .illegalDD => [0xDD#8]
  | .sbcAD8 n => [0xDE#8, n]
  | .rst18h => [0xDF#8]
  | .ldhIndA8A n => [0xE0#8, n]
  | .popHl => [0xE1#8]
  | .ldhIndCA => [0xE2#8]
  | .illegalE3 => [0xE3#8]
  | .illegalE4 => [0xE4#8]
  | .pushHl => [0xE5#8]
  | .andD8 n => [0xE6#8, n]
  | .rst20h => [0xE7#8]
  | .addSpE8 e => [0xE8#8, e]
  | .jpHl => [0xE9#8]
  | .ldIndA16A a => [0xEA#8, loByte a, hiByte a]
  | .illegalEB => [0xEB#8]
  | .illegalEC => [0xEC#8]
  | .illegalED => [0xED#8]
  | .xorD8 n => [0xEE#8, n]
  | .rst28h => [0xEF#8]
  | .ldhAIndA8 n => [0xF0#8, n]
  | .popAf => [0xF1#8]
  | .ldhAIndC => [0xF2#8]
  | .di => [0xF3#8]
  | .illegalF4 => [0xF4#8]
  | .pushAf => [0xF5#8]
  | .orD8 n => [0xF6#8, n]
  | .rst30h => [0xF7#8]
  | .ldHlSpE8 e => [0xF8#8, e]
  | .ldSpHl => [0xF9#8]
  | .ldAIndA16 a => [0xFA#8, loByte a, hiByte a]
  | .ei => [0xFB#8]
  | .illegalFC => [0xFC#8]
  | .illegalFD => [0xFD#8]
  | .cpD8 n => [0xFE#8, n]
  | .rst38h => [0xFF#8]
  | .rlcB => [0xCB#8, 0x00#8]
  | .rlcC => [0xCB#8, 0x01#8]
  | .rlcD => [0xCB#8, 0x02#8]
  | .rlcE => [0xCB#8, 0x03#8]
  | .rlcH => [0xCB#8, 0x04#8]
  | .rlcL => [0xCB#8, 0x05#8]
  | .rlcIndHl => [0xCB#8, 0x06#8]
  | .rlcA => [0xCB#8, 0x07#8]
  | .rrcB => [0xCB#8, 0x08#8]
  | .rrcC => [0xCB#8, 0x09#8]
  | .rrcD => [0xCB#8, 0x0A#8]
  | .rrcE => [0xCB#8, 0x0B#8]
  | .rrcH => [0xCB#8, 0x0C#8]
  | .rrcL => [0xCB#8, 0x0D#8]
  | .rrcIndHl => [0xCB#8, 0x0E#8]
  | .rrcA => [0xCB#8, 0x0F#8]
  | .rlB => [0xCB#8, 0x10#8]
  | .rlC => [0xCB#8, 0x11#8]
  | .rlD => [0xCB#8, 0x12#8]
  | .rlE => [0xCB#8, 0x13#8]
  | .rlH => [0xCB#8, 0x14#8]
  | .rlL => [0xCB#8, 0x15#8]
  | .rlIndHl => [0xCB#8, 0x16#8]
  | .rlA => [0xCB#8, 0x17#8]
  | .rrB => [0xCB#8, 0x18#8]
  | .rrC => [0xCB#8, 0x19#8]
  | .rrD => [0xCB#8, 0x1A#8]
  | .rrE => [0xCB#8, 0x1B#8]
  | .rrH => [0xCB#8, 0x1C#8]
  | .rrL => [0xCB#8, 0x1D#8]
  | .rrIndHl => [0xCB#8, 0x1E#8]
  | .rrA => [0xCB#8, 0x1F#8]
  | .slaB => [0xCB#8, 0x20#8]
  | .slaC => [0xCB#8, 0x21#8]
  | .slaD => [0xCB#8, 0x22#8]
  | .slaE => [0xCB#8, 0x23#8]
  | .slaH => [0xCB#8, 0x24#8]
  | .slaL => [0xCB#8, 0x25#8]
  | .slaIndHl => [0xCB#8, 0x26#8]
  | .slaA => [0xCB#8, 0x27#8]
  | .sraB => [0xCB#8, 0x28#8]
  | .sraC => [0xCB#8, 0x29#8]
  | .sraD => [0xCB#8, 0x2A#8]
  | .sraE => [0xCB#8, 0x2B#8]
  | .sraH => [0xCB#8, 0x2C#8]
  | .sraL => [0xCB#8, 0x2D#8]
  | .sraIndHl => [0xCB#8, 0x2E#8]
  | .sraA => [0xCB#8, 0x2F#8]
  | .swapB => [0xCB#8, 0x30#8]
  | .swapC => [0xCB#8, 0x31#8]
  | .swapD => [0xCB#8, 0x32#8]
  | .swapE => [0xCB#8, 0x33#8]
  | .swapH => [0xCB#8, 0x34#8]
  | .swapL => [0xCB#8, 0x35#8]
  | .swapIndHl => [0xCB#8, 0x36#8]
  | .swapA => [0xCB#8, 0x37#8]
  | .srlB => [0xCB#8, 0x38#8]
  | .srlC => [0xCB#8, 0x39#8]
  | .srlD => [0xCB#8, 0x3A#8]
  | .srlE => [0xCB#8, 0x3B#8]
  | .srlH => [0xCB#8, 0x3C#8]
  | .srlL => [0xCB#8, 0x3D#8]
  | .srlIndHl => [0xCB#8, 0x3E#8]
  | .srlA => [0xCB#8, 0x3F#8]
  | .bit0B => [0xCB#8, 0x40#8]
  | .bit0C => [0xCB#8, 0x41#8]
  | .bit0D => [0xCB#8, 0x42#8]
  | .bit0E => [0xCB#8, 0x43#8]
  | .bit0H => [0xCB#8, 0x44#8]
  | .bit0L => [0xCB#8, 0x45#8]
  | .bit0IndHl => [0xCB#8, 0x46#8]
  | .bit0A => [0xCB#8, 0x47#8]
  | .bit1B => [0xCB#8, 0x48#8]
  | .bit1C => [0xCB#8, 0x49#8]
  | .bit1D => [0xCB#8, 0x4A#8]
  | .bit1E => [0xCB#8, 0x4B#8]
  | .bit1H => [0xCB#8, 0x4C#8]
  | .bit1L => [0xCB#8, 0x4D#8]
  | .bit1IndHl => [0xCB#8, 0x4E#8]
  | .bit1A => [0xCB#8, 0x4F#8]
  | .bit2B => [0xCB#8, 0x50#8]
  | .bit2C => [0xCB#8, 0x51#8]
  | .bit2D => [0xCB#8, 0x52#8]
  | .bit2E => [0xCB#8, 0x53#8]
  | .bit2H => [0xCB#8, 0x54#8]
  | .bit2L => [0xCB#8, 0x55#8]
  | .bit2IndHl => [0xCB#8, 0x56#8]
  | .bit2A => [0xCB#8, 0x57#8]
  | .bit3B => [0xCB#8, 0x58#8]
  | .bit3C => [0xCB#8, 0x59#8]
  | .bit3D => [0xCB#8, 0x5A#8]
  | .bit3E => [0xCB#8, 0x5B#8]
  | .bit3H => [0xCB#8, 0x5C#8]
  | .bit3L => [0xCB#8, 0x5D#8]
  | .bit3IndHl => [0xCB#8, 0x5E#8]
  | .bit3A => [0xCB#8, 0x5F#8]
  | .bit4B => [0xCB#8, 0x60#8]
  | .bit4C => [0xCB#8, 0x61#8]
  | .bit4D => [0xCB#8, 0x62#8]
  | .bit4E => [0xCB#8, 0x63#8]
  | .bit4H => [0xCB#8, 0x64#8]
  | .bit4L => [0xCB#8, 0x65#8]
  | .bit4IndHl => [0xCB#8, 0x66#8]
  | .bit4A => [0xCB#8, 0x67#8]
  | .bit5B => [0xCB#8, 0x68#8]
  | .bit5C => [0xCB#8, 0x69#8]
  | .bit5D => [0xCB#8, 0x6A#8]
  | .bit5E => [0xCB#8, 0x6B#8]
  | .bit5H => [0xCB#8, 0x6C#8]
  | .bit5L => [0xCB#8, 0x6D#8]
  | .bit5IndHl => [0xCB#8, 0x6E#8]
  | .bit5A => [0xCB#8, 0x6F#8]
  | .bit6B => [0xCB#8, 0x70#8]
  | .bit6C => [0xCB#8, 0x71#8]
  | .bit6D => [0xCB#8, 0x72#8]
  | .bit6E => [0xCB#8, 0x73#8]
  | .bit6H => [0xCB#8, 0x74#8]
  | .bit6L => [0xCB#8, 0x75#8]
  | .bit6IndHl => [0xCB#8, 0x76#8]
  | .bit6A => [0xCB#8, 0x77#8]
  | .bit7B => [0xCB#8, 0x78#8]
  | .bit7C => [0xCB#8, 0x79#8]
  | .bit7D => [0xCB#8, 0x7A#8]
  | .bit7E => [0xCB#8, 0x7B#8]
  | .bit7H => [0xCB#8, 0x7C#8]
  | .bit7L => [0xCB#8, 0x7D#8]
  | .bit7IndHl => [0xCB#8, 0x7E#8]
  | .bit7A => [0xCB#8, 0x7F#8]
  | .res0B => [0xCB#8, 0x80#8]
  | .res0C => [0xCB#8, 0x81#8]
  | .res0D => [0xCB#8, 0x82#8]
  | .res0E => [0xCB#8, 0x83#8]
  | .res0H => [0xCB#8, 0x84#8]
  | .res0L => [0xCB#8, 0x85#8]
  | .res0IndHl => [0xCB#8, 0x86#8]
  | .res0A => [0xCB#8, 0x87#8]
  | .res1B => [0xCB#8, 0x88#8]
  | .res1C => [0xCB#8, 0x89#8]
  | .res1D => [0xCB#8, 0x8A#8]
  | .res1E => [0xCB#8, 0x8B#8]
  | .res1H => [0xCB#8, 0x8C#8]
  | .res1L => [0xCB#8, 0x8D#8]
  | .res1IndHl => [0xCB#8, 0x8E#8]
  | .res1A => [0xCB#8, 0x8F#8]
  | .res2B => [0xCB#8, 0x90#8]
  | .res2C => [0xCB#8, 0x91#8]
  | .res2D => [0xCB#8, 0x92#8]
  | .res2E => [0xCB#8, 0x93#8]
  | .res2H => [0xCB#8, 0x94#8]
  | .res2L => [0xCB#8, 0x95#8]
  | .res2IndHl => [0xCB#8, 0x96#8]
  | .res2A => [0xCB#8, 0x97#8]
  | .res3B => [0xCB#8, 0x98#8]
  | .res3C => [0xCB#8, 0x99#8]
  | .res3D => [0xCB#8, 0x9A#8]
  | .res3E => [0xCB#8, 0x9B#8]
  | .res3H => [0xCB#8, 0x9C#8]
  | .res3L => [0xCB#8, 0x9D#8]
  | .res3IndHl => [0xCB#8, 0x9E#8]
  | .res3A => [0xCB#8, 0x9F#8]
  | .res4B => [0xCB#8, 0xA0#8]
  | .res4C => [0xCB#8, 0xA1#8]
  | .res4D => [0xCB#8, 0xA2#8]
  | .res4E => [0xCB#8, 0xA3#8]
  | .res4H => [0xCB#8, 0xA4#8]
  | .res4L => [0xCB#8, 0xA5#8]
  | .res4IndHl => [0xCB#8, 0xA6#8]
  | .res4A => [0xCB#8, 0xA7#8]
  | .res5B => [0xCB#8, 0xA8#8]
  | .res5C => [0xCB#8, 0xA9#8]
  | .res5D => [0xCB#8, 0xAA#8]
  | .res5E => [0xCB#8, 0xAB#8]
  | .res5H => [0xCB#8, 0xAC#8]
  | .res5L => [0xCB#8, 0xAD#8]
  | .res5IndHl => [0xCB#8, 0xAE#8]
  | .res5A => [0xCB#8, 0xAF#8]
  | .res6B => [0xCB#8, 0xB0#8]
  | .res6C => [0xCB#8, 0xB1#8]
  | .res6D => [0xCB#8, 0xB2#8]
  | .res6E => [0xCB#8, 0xB3#8]
  | .res6H => [0xCB#8, 0xB4#8]
  | .res6L => [0xCB#8, 0xB5#8]
  | .res6IndHl => [0xCB#8, 0xB6#8]
  | .res6A => [0xCB#8, 0xB7#8]
  | .res7B => [0xCB#8, 0xB8#8]
  | .res7C => [0xCB#8, 0xB9#8]
  | .res7D => [0xCB#8, 0xBA#8]
  | .res7E => [0xCB#8, 0xBB#8]
  | .res7H => [0xCB#8, 0xBC#8]
  | .res7L => [0xCB#8, 0xBD#8]
  | .res7IndHl => [0xCB#8, 0xBE#8]
  | .res7A => [0xCB#8, 0xBF#8]
  | .set0B => [0xCB#8, 0xC0#8]
  | .set0C => [0xCB#8, 0xC1#8]
  | .set0D => [0xCB#8, 0xC2#8]
  | .set0E => [0xCB#8, 0xC3#8]
  | .set0H => [0xCB#8, 0xC4#8]
  | .set0L => [0xCB#8, 0xC5#8]
  | .set0IndHl => [0xCB#8, 0xC6#8]
  | .set0A => [0xCB#8, 0xC7#8]
  | .set1B => [0xCB#8, 0xC8#8]
  | .set1C => [0xCB#8, 0xC9#8]
  | .set1D => [0xCB#8, 0xCA#8]
  | .set1E => [0xCB#8, 0xCB#8]
  | .set1H => [0xCB#8, 0xCC#8]
  | .set1L => [0xCB#8, 0xCD#8]
  | .set1IndHl => [0xCB#8, 0xCE#8]
  | .set1A => [0xCB#8, 0xCF#8]
  | .set2B => [0xCB#8, 0xD0#8]
  | .set2C => [0xCB#8, 0xD1#8]
  | .set2D => [0xCB#8, 0xD2#8]
  | .set2E => [0xCB#8, 0xD3#8]
  | .set2H => [0xCB#8, 0xD4#8]
  | .set2L => [0xCB#8, 0xD5#8]
  | .set2IndHl => [0xCB#8, 0xD6#8]
  | .set2A => [0xCB#8, 0xD7#8]
  | .set3B => [0xCB#8, 0xD8#8]
  | .set3C => [0xCB#8, 0xD9#8]
  | .set3D => [0xCB#8, 0xDA#8]
  | .set3E => [0xCB#8, 0xDB#8]
  | .set3H => [0xCB#8, 0xDC#8]
  | .set3L => [0xCB#8, 0xDD#8]
  | .set3IndHl => [0xCB#8, 0xDE#8]
  | .set3A => [0xCB#8, 0xDF#8]
  | .set4B => [0xCB#8, 0xE0#8]
  | .set4C => [0xCB#8, 0xE1#8]
  | .set4D => [0xCB#8, 0xE2#8]
  | .set4E => [0xCB#8, 0xE3#8]
  | .set4H => [0xCB#8, 0xE4#8]
  | .set4L => [0xCB#8, 0xE5#8]
  | .set4IndHl => [0xCB#8, 0xE6#8]
  | .set4A => [0xCB#8, 0xE7#8]
  | .set5B => [0xCB#8, 0xE8#8]
  | .set5C => [0xCB#8, 0xE9#8]
  | .set5D => [0xCB#8, 0xEA#8]
  | .set5E => [0xCB#8, 0xEB#8]
  | .set5H => [0xCB#8, 0xEC#8]
  | .set5L => [0xCB#8, 0xED#8]
  | .set5IndHl => [0xCB#8, 0xEE#8]
  | .set5A => [0xCB#8, 0xEF#8]
  | .set6B => [0xCB#8, 0xF0#8]
  | .set6C => [0xCB#8, 0xF1#8]
  | .set6D => [0xCB#8, 0xF2#8]
  | .set6E => [0xCB#8, 0xF3#8]
  | .set6H => [0xCB#8, 0xF4#8]
  | .set6L => [0xCB#8, 0xF5#8]
  | .set6IndHl => [0xCB#8, 0xF6#8]
  | .set6A => [0xCB#8, 0xF7#8]
  | .set7B => [0xCB#8, 0xF8#8]
  | .set7C => [0xCB#8, 0xF9#8]
  | .set7D => [0xCB#8, 0xFA#8]
  | .set7E => [0xCB#8, 0xFB#8]
  | .set7H => [0xCB#8, 0xFC#8]
  | .set7L => [0xCB#8, 0xFD#8]
  | .set7IndHl => [0xCB#8, 0xFE#8]
  | .set7A => [0xCB#8, 0xFF#8]

/-- The bytes of the instruction whose bits are `w`, lowest address first, every bit above `nbits` zero, up to the longest
instruction. spec/opcode_table.json numbers its 16-bit rows, those of the CB table, with the byte 0xCB in bits 15..8 (its
`match` 0xCB00 to 0xCBFF); every other row has its first byte in bits 7..0 (log entry 12, DEDUCED). -/
def tableBytes (nbits w : Nat) : List Byte :=
  let v := w % 2 ^ nbits
  if nbits = 16 ∧ v / 256 = 0xCB then
    [0xCB#8, BitVec.ofNat 8 v, 0#8]
  else
    [BitVec.ofNat 8 v, BitVec.ofNat 8 (v / 256), BitVec.ofNat 8 (v / 65536)]

/-- The instruction the decoder reads from an opcode-table word. -/
def decodeTableWord (nbits w : Nat) : Option Instr :=
  match decode (tableBytes nbits w) with
  | .ok (i, _) => some i
  | .error _ => none

end Sys2Proof
end

