-- ==== Sys2Proof/Machine/Flags.lean ====
section
/-! DEFINITION. The flags register (10_state.md R23) and every arithmetic, logic, rotate and condition computation, as
functions of their operands: exact sums and differences of natural numbers, narrowed at the end (00_scope.md R6). -/

namespace Sys2Proof.Machine

/-- F.Z, bit 7 (10_state.md R23). -/
def flagZ (f : Byte) : Bool := f.getLsbD 7

/-- F.N, bit 6. -/
def flagN (f : Byte) : Bool := f.getLsbD 6

/-- F.H, bit 5. -/
def flagH (f : Byte) : Bool := f.getLsbD 5

/-- F.C, bit 4. -/
def flagC (f : Byte) : Bool := f.getLsbD 4

/-- The byte F with the four flags in bits 7 to 4 and zeros below (10_state.md R23, R24). -/
def packFlags (z n h c : Bool) : Byte :=
  (if z then 0x80#8 else 0x00#8) ||| (if n then 0x40#8 else 0x00#8) ||| (if h then 0x20#8 else 0x00#8) |||
    (if c then 0x10#8 else 0x00#8)

/-- A flag as the number 0 or 1 (`u1` of 00_scope.md R6). -/
def bit01 (b : Bool) : Nat := if b then 1 else 0

/-- `cond(k)` of 46_control.md R200 on the byte F. -/
def condHolds (k : Cond) (f : Byte) : Bool :=
  match k with
  | .nz => !flagZ f
  | .z => flagZ f
  | .nc => !flagC f
  | .c => flagC f

/-- An 8-bit result with the four flags it sets. -/
structure Result8 where
  value : Byte
  z : Bool
  n : Bool
  h : Bool
  c : Bool
deriving DecidableEq, Repr

/-- `A + b + cin` (43_alu8.md R151 with `cin = 0`, R152). -/
def add8 (a b : Byte) (cin : Bool) : Result8 :=
  let r := a.toNat + b.toNat + bit01 cin
  { value := BitVec.ofNat 8 r
    z := decide (r % 256 = 0)
    n := false
    h := decide (a.toNat % 16 + b.toNat % 16 + bit01 cin > 0x0F)
    c := decide (r > 0xFF) }

/-- `A − b − cin` (43_alu8.md R153 with `cin = 0`, R154). -/
def sub8 (a b : Byte) (cin : Bool) : Result8 :=
  let r : Int := (a.toNat : Int) - b.toNat - bit01 cin
  { value := BitVec.ofInt 8 r
    z := decide (r % 256 = 0)
    n := true
    h := decide (a.toNat % 16 < b.toNat % 16 + bit01 cin)
    c := decide (a.toNat < b.toNat + bit01 cin) }

/-- A logical operation: Z from the result, H fixed, N and C clear (43_alu8.md R155 to R157). -/
def logic8 (r : Byte) (h : Bool) : Result8 :=
  { value := r, z := decide (r = 0#8), n := false, h := h, c := false }

/-- The ALU operation `op` on A and `b` (43_alu8.md R151 to R158). CP keeps A (R158). -/
def alu8 (op : AluOp) (a b : Byte) (cin : Bool) : Result8 :=
  match op with
  | .add => add8 a b false
  | .adc => add8 a b cin
  | .sub => sub8 a b false
  | .sbc => sub8 a b cin
  | .and => logic8 (a &&& b) true
  | .xor => logic8 (a ^^^ b) false
  | .or => logic8 (a ||| b) false
  | .cp => { sub8 a b false with value := a }

/-- The operation reads F.C (43_alu8.md R152, R154). -/
def aluUsesCarry : AluOp → Bool
  | .adc => true
  | .sbc => true
  | .add => false
  | .sub => false
  | .and => false
  | .xor => false
  | .or => false
  | .cp => false

/-- `(v + 1) mod 256` (43_alu8.md R159). -/
def inc8 (v : Byte) : Byte := BitVec.ofNat 8 (v.toNat + 1)

/-- H of an increment (43_alu8.md R159). -/
def incHalf (v : Byte) : Bool := decide (v.toNat % 16 = 0x0F)

/-- `(v − 1) mod 256` (43_alu8.md R161). -/
def dec8 (v : Byte) : Byte := BitVec.ofInt 8 ((v.toNat : Int) - 1)

/-- H of a decrement (43_alu8.md R161). -/
def decHalf (v : Byte) : Bool := decide (v.toNat % 16 = 0x00)

/-- DAA: the adjusted A and the new C, from A and the flags N, H, C (43_alu8.md R163). -/
def daa8 (a : Byte) (n h c : Bool) : Byte × Bool :=
  if n then
    let a1 := if c then BitVec.ofInt 8 ((a.toNat : Int) - 0x60) else a
    let a2 := if h then BitVec.ofInt 8 ((a1.toNat : Int) - 0x06) else a1
    (a2, c)
  else
    let high := c || decide (a.toNat > 0x99)
    let a1 := if high then BitVec.ofNat 8 (a.toNat + 0x60) else a
    let a2 := if h || decide (a1.toNat % 16 > 0x09) then BitVec.ofNat 8 (a1.toNat + 0x06) else a1
    (a2, high)

/-- The rotate or shift `op` of `v` with carry in `cin`: the result and the bit that goes to C (45_rotate_shift_bit.md R185
to R192). -/
def rotate8 (op : RotOp) (v : Byte) (cin : Bool) : Byte × Bool :=
  let left (low : Bool) : Byte := BitVec.ofNat 8 (2 * v.toNat + bit01 low)
  let right (high : Bool) : Byte := BitVec.ofNat 8 (v.toNat / 2 + 0x80 * bit01 high)
  match op with
  | .rlc => (left (v.getLsbD 7), v.getLsbD 7)
  | .rrc => (right (v.getLsbD 0), v.getLsbD 0)
  | .rl => (left cin, v.getLsbD 7)
  | .rr => (right cin, v.getLsbD 0)
  | .sla => (left false, v.getLsbD 7)
  | .sra => (right (v.getLsbD 7), v.getLsbD 0)
  | .swap => (BitVec.ofNat 8 (v.toNat % 16 * 16 + v.toNat / 16), false)
  | .srl => (right false, v.getLsbD 0)

/-- The operation reads F.C (45_rotate_shift_bit.md R182, R183, R187, R188). -/
def rotUsesCarry : RotOp → Bool
  | .rl => true
  | .rr => true
  | .rlc => false
  | .rrc => false
  | .sla => false
  | .sra => false
  | .swap => false
  | .srl => false

/-- `v & ~(1 << b)` (45_rotate_shift_bit.md R194). -/
def clearBit8 (b : Nat) (v : Byte) : Byte := v &&& ~~~(1#8 <<< b)

/-- `v | (1 << b)` (45_rotate_shift_bit.md R195). -/
def setBit8 (b : Nat) (v : Byte) : Byte := v ||| (1#8 <<< b)

/-- `(v + 1) mod 2^16` (20_memory.md R58, 44_alu16.md R170). -/
def inc16 (v : Word) : Word := BitVec.ofNat 16 (v.toNat + 1)

/-- `(v − 1) mod 2^16` (20_memory.md R58, 44_alu16.md R171). -/
def dec16 (v : Word) : Word := BitVec.ofInt 16 ((v.toNat : Int) - 1)

/-- `HL + v` with H the carry out of bit 11 and C the carry out of bit 15 (44_alu16.md R172). -/
def addHl16 (hl v : Word) : Word × Bool × Bool :=
  (BitVec.ofNat 16 (hl.toNat + v.toNat), decide (hl.toNat % 0x1000 + v.toNat % 0x1000 > 0x0FFF),
    decide (hl.toNat + v.toNat > 0xFFFF))

/-- `SP + sext_16(e)` with H and C of the unsigned addition of `e` to the low byte of SP (44_alu16.md R173,
42_load16_stack.md R148, 90_conflicts.md C2). -/
def addSpDisp (sp : Word) (e : Byte) : Word × Bool × Bool :=
  (sp + sext16 e, decide (sp.toNat % 16 + e.toNat % 16 > 0x0F), decide (sp.toNat % 256 + e.toNat > 0xFF))

end Sys2Proof.Machine
end

