-- ==== Sys2Proof/Config.lean ====
section
/-! DEFINITION. The named open parameters of the core (00_scope.md R4), among them a bus of which nothing is known, and the
free value of the model: what the core cells hold after a fault (60_exceptions.md R235). -/

namespace Sys2Proof

/-- `P_HALT_BUG` (92_eei_decisions.md D9). -/
inductive HaltBugPolicy where
  | reproduce
  | fault
deriving DecidableEq, Repr

/-- `P_STOP` (92_eei_decisions.md D10). -/
inductive StopPolicy where
  | waitJoypad
  | fault
deriving DecidableEq, Repr

/-- `P_RESET` (92_eei_decisions.md D11, 10_state.md R43). -/
inductive ResetProfile where
  | postBootDmg
  | powerOn
deriving DecidableEq, Repr

/-- The UNDEF marks of 10_state.md R43, R44: `true` marks a cell that holds no value. -/
structure Machine.Unset where
  a : Bool
  f : Bool
  b : Bool
  c : Bool
  d : Bool
  e : Bool
  h : Bool
  l : Bool
  sp : Bool
  ifr : Bool
  ie : Bool
deriving DecidableEq, Repr, Inhabited

/-- The core cells whose contents 60_exceptions.md R235 leaves unspecified after a faulting step. R235 does not say whether a
cell is still UNDEF then: the model counts the marks among the contents (log entry 8, DESIGN CHOICE, safe). -/
structure CoreCells where
  a : Byte
  f : Byte
  b : Byte
  c : Byte
  d : Byte
  e : Byte
  h : Byte
  l : Byte
  sp : Word
  pc : Word
  ime : Bool
  eiPending : Bool
  halted : Bool
  haltBug : Bool
  stopped : Bool
  ifr : BitVec 5
  ie : Byte
  unset : Machine.Unset
deriving DecidableEq, Repr, Inhabited

/-- What a byte of memory that nothing has written reads as: the byte 0x00, as in the default start of
95_test_vectors.md section 0. DESIGN CHOICE, unsafe (log entry 2): the spec gives memory no reset contents. -/
def Config.memFill : Byte := 0x00#8

/-- FREE VALUE (log entry 8, DESIGN CHOICE, safe): the core cells after a faulting step, which 60_exceptions.md R235
leaves unspecified, the UNDEF marks among them. It may depend on the cells and the cycle counter before the step. -/
opaque Config.afterFault : CoreCells → BitVec 64 → CoreCells

/-! ### The parameter BUS (00_scope.md R4, 92_eei_decisions.md D14)

A value of BUS is its `readByte`, its `writeByte` and its state. The reference value RAM_BUS is written out in
Machine/Memory.lean. These constants are any other: they have no body, so a claim about a machine on this bus holds
whatever it is. Its state is a number, which stands for whatever the bus holds (log entry 1, DESIGN CHOICE, safe). -/

/-- `readByte` of a bus other than RAM_BUS (20_memory.md R51): a byte, or none for a failure, and the state of the bus after
the call, which a read may change. -/
opaque Config.busReadByte : Nat → Word → Option Byte × Nat

/-- `writeByte` of a bus other than RAM_BUS (20_memory.md R52): whether the bus takes the write, and its state after the call,
which need not hold the byte. -/
opaque Config.busWriteByte : Nat → Word → Byte → Bool × Nat

/-- The byte a bus other than RAM_BUS holds at an address, looked at with no access, as the header checksum byte of 10_state.md
R43 is. -/
opaque Config.busPeek : Nat → Word → Byte

end Sys2Proof
end

