-- ==== Sys2Proof/Machine/Memory.lean ====
section
/-! DEFINITION. The bus (20_memory.md R51, R52). The reference bus RAM_BUS (R74): 65,536 bytes held as a list of (address,
byte) pairs in one canonical form, and two sets of addresses held as ranges. Any other bus: its calls are the constants of
Config.lean. -/

namespace Sys2Proof.Machine

/-- `mem` of RAM_BUS: the bytes that differ from `Config.memFill`, addresses strictly rising. -/
abbrev Memory := List Host.Cell

/-- The canonical form below a bound: addresses at least `lo`, strictly rising, under 65,536 (20_memory.md R50), and no
entry equal to what an unlisted address reads as. -/
def Memory.wfFrom (lo : Nat) : Memory → Bool
  | [] => true
  | (k, v) :: rest => decide (lo ≤ k) && decide (k < 65536) && decide (v ≠ Config.memFill) && Memory.wfFrom (k + 1) rest

/-- The canonical form. -/
def Memory.wf (m : Memory) : Bool := m.wfFrom 0

/-- `mem[a]` of 20_memory.md R74. -/
def Memory.read : Memory → Nat → Byte
  | [], _ => Config.memFill
  | (k, v) :: rest, a => if k = a then v else Memory.read rest a

/-- `mem[a] <- v` of 20_memory.md R74, keeping the canonical form: writing the fill byte removes the entry. -/
def Memory.write : Memory → Nat → Byte → Memory
  | [], a, v => if v = Config.memFill then [] else [(a, v)]
  | (k, w) :: rest, a, v =>
    if a < k then
      if v = Config.memFill then (k, w) :: rest else (a, v) :: (k, w) :: rest
    else if a = k then
      if v = Config.memFill then rest else (a, v) :: rest
    else
      (k, w) :: Memory.write rest a v

/-- A range of addresses, both ends included. -/
structure AddrRange where
  first : Nat
  last : Nat
deriving DecidableEq, Repr

/-- The address is in one of the ranges. -/
def inRanges (rs : List AddrRange) (a : Word) : Bool :=
  rs.any fun r => decide (r.first ≤ a.toNat) && decide (a.toNat ≤ r.last)

/-- The state of RAM_BUS (20_memory.md R74). -/
structure RamBus where
  /-- The array `mem`. -/
  mem : Memory
  /-- The addresses outside the set `readable`. -/
  readFails : List AddrRange
  /-- The addresses outside the set `writable`. -/
  writeFails : List AddrRange
deriving DecidableEq, Repr

/-- The parameter BUS with its state (00_scope.md R4, 92_eei_decisions.md D14): the reference bus, or any other, whose
`readByte` and `writeByte` are the constants of Config.lean. -/
inductive Bus where
  | ram (r : RamBus)
  | other (state : Nat)
deriving DecidableEq, Repr

/-- `BUS.readByte(a)` (20_memory.md R51): the byte, or none for a failure, and the bus after the call. RAM_BUS changes nothing
(R74). -/
def Bus.readByte (b : Bus) (a : Word) : Option Byte × Bus :=
  match b with
  | .ram r => (if inRanges r.readFails a then none else some (r.mem.read a.toNat), .ram r)
  | .other n => ((Config.busReadByte n a).1, .other (Config.busReadByte n a).2)

/-- `BUS.writeByte(a, v)` (20_memory.md R52): whether the bus takes it, and the bus after the call. RAM_BUS sets `mem[a]`, or
fails and changes nothing (R74). -/
def Bus.writeByte (b : Bus) (a : Word) (v : Byte) : Bool × Bus :=
  match b with
  | .ram r =>
    if inRanges r.writeFails a then (false, .ram r) else (true, .ram { r with mem := r.mem.write a.toNat v })
  | .other n => ((Config.busWriteByte n a v).1, .other (Config.busWriteByte n a v).2)

/-- The byte a bus holds at an address, looked at with no access. -/
def Bus.peek (b : Bus) (a : Word) : Byte :=
  match b with
  | .ram r => r.mem.read a.toNat
  | .other n => Config.busPeek n a

/-- The array of RAM_BUS is in its canonical form. -/
def Bus.wf (b : Bus) : Bool :=
  match b with
  | .ram r => r.mem.wf
  | .other _ => true

/-- Two states of one bus: RAM_BUS, or the other. -/
def Bus.sameBus (b c : Bus) : Bool :=
  match b, c with
  | .ram _, .ram _ => true
  | .other _, .other _ => true
  | .ram _, .other _ => false
  | .other _, .ram _ => false

/-- Two states of one bus with the same permissions: those of RAM_BUS are its two sets of addresses (20_memory.md R74). -/
def Bus.sameMap (b c : Bus) : Prop :=
  match b, c with
  | .ram r, .ram q => q.readFails = r.readFails ∧ q.writeFails = r.writeFails
  | .other _, .other _ => True
  | .ram _, .other _ => False
  | .other _, .ram _ => False

/-- The bus with a byte placed at an address from outside the machine: RAM_BUS, put in the place of any other (log entry 13). -/
def Bus.place (b : Bus) (a : Word) (v : Byte) : Bus :=
  match b with
  | .ram r => .ram { r with mem := r.mem.write a.toNat v }
  | .other _ => .ram { mem := Memory.write [] a.toNat v, readFails := [], writeFails := [] }

end Sys2Proof.Machine
end

