-- ==== Sys2Proof/Machine/State.lean ====
section
/-! DEFINITION. The state of the core and its bus (10_state.md, 20_memory.md R51, R52), the faults (60_exceptions.md R230)
and the reset (10_state.md R43, 70_reset_and_hazards.md R270). -/

namespace Sys2Proof.Machine

/-- The cell an UndefinedRegisterFault names (60_exceptions.md R233): a register, a pair read whole, F, IF or IE. -/
inductive RegCell where
  | a | f | b | c | d | e | h | l
  | af | bc | de | hl
  | sp
  | ifr | ie
deriving DecidableEq, Repr

/-- The access a BusFault reports: `kind`, `address` and, for writes only, `value` (60_exceptions.md R232). -/
inductive BusAccess where
  | read (address : Word)
  | write (address : Word) (value : Byte)
deriving DecidableEq, Repr

/-- The faults of 60_exceptions.md R230, each with its record. All are the spec's own and terminal (R234). Beside
the record the value carries the bus as the fault leaves it: the accesses made before it have been made (R235). -/
inductive Fault where
  /-- Code 1 (R231). Raised by the eleven illegal base opcodes. Safe: the spec's own stop. -/
  | decodeFault (pc : Word) (opcode : Byte) (cycles : BitVec 64) (bus : Bus)
  /-- Code 2 (R232). Raised by `memRead8` and `memWrite8` when the bus refuses the access. Safe: the spec's own stop. -/
  | busFault (access : BusAccess) (pc : Word) (bus : Bus)
  /-- Code 3 (R233). Raised by HALT under `P_HALT_BUG = fault`. Safe: it refuses a run the source does not settle. -/
  | haltBugFault (pc : Word) (bus : Bus)
  /-- Code 4 (R233). Raised by STOP under `P_STOP = fault`. Safe: it refuses a run the source does not settle. -/
  | stopFault (pc : Word) (bus : Bus)
  /-- Code 5 (R233, 10_state.md R44). Raised by a read of a cell that is still UNDEF after a `power_on` reset. Safe: it
  refuses a run whose result would depend on a value the source never gives. Never raised from `State.reset`. -/
  | undefinedRegisterFault (cell : RegCell) (pc : Word) (bus : Bus)
deriving DecidableEq, Repr

/-- Why the model gives no meaning to an instruction. No arm of `exec` refuses. -/
inductive Refusal where
  /-- Raised by an arm of `exec` whose instruction has no meaning yet: none is left. Safe: it stops. -/
  | notModelled (mnemonic : String)
deriving DecidableEq, Repr

/-- Every cell holds a value (profile `post_boot_dmg`). -/
def Unset.none : Unset := ⟨false, false, false, false, false, false, false, false, false, false, false⟩

/-- Every cell marked UNDEF by the profile `power_on` (10_state.md R43). -/
def Unset.all : Unset := ⟨true, true, true, true, true, true, true, true, true, true, true⟩

/-- Everything the spec gives the machine. -/
structure State where
  /-- A (10_state.md R20). -/
  a : Byte
  /-- F (10_state.md R23, R24). -/
  f : Byte
  b : Byte
  c : Byte
  d : Byte
  e : Byte
  h : Byte
  l : Byte
  /-- SP (10_state.md R29). -/
  sp : Word
  /-- PC (10_state.md R30). -/
  pc : Word
  /-- The interrupt master enable (10_state.md R31). -/
  ime : Bool
  /-- `ei_pending` (10_state.md R32). -/
  eiPending : Bool
  /-- `halted` (10_state.md R33). -/
  halted : Bool
  /-- `halt_bug` (10_state.md R34). -/
  haltBug : Bool
  /-- `stopped` (10_state.md R35). -/
  stopped : Bool
  /-- `cycles` (10_state.md R36). -/
  cycles : BitVec 64
  /-- The fault latch (10_state.md R37). -/
  fault : Option Fault
  /-- IF, five bits (10_state.md R38). -/
  ifr : BitVec 5
  /-- IE (10_state.md R39). -/
  ie : Byte
  /-- The UNDEF marks (10_state.md R44). -/
  unset : Unset
  /-- `pc_at_step_start` (60_exceptions.md R249): PC when the running step began. -/
  stepPc : Word
  /-- The parameter BUS and its state (00_scope.md R4, 20_memory.md R51, R52, R74). -/
  bus : Bus
  /-- `P_HALT_BUG` (00_scope.md R4), fixed by reset. -/
  haltBugPolicy : HaltBugPolicy
  /-- `P_STOP` (00_scope.md R4), fixed by reset. -/
  stopPolicy : StopPolicy
deriving DecidableEq, Repr

/-- The reset value of F under `post_boot_dmg` (10_state.md R43): 0xB0, or 0x80 when the header checksum byte is 0x00. -/
def resetF (bus : Bus) : Byte := if bus.peek 0x014D#16 = 0x00#8 then 0x80#8 else 0xB0#8

/-- `reset(P_RESET, P_HALT_BUG, P_STOP, BUS)` (60_exceptions.md R258, 70_reset_and_hazards.md R270): every cell of
10_state.md R43. It does not touch the bus. -/
def State.resetWith (profile : ResetProfile) (haltBugPolicy : HaltBugPolicy) (stopPolicy : StopPolicy) (bus : Bus) : State :=
  match profile with
  | .postBootDmg =>
    { a := 0x01#8, f := resetF bus, b := 0x00#8, c := 0x13#8, d := 0x00#8, e := 0xD8#8, h := 0x01#8, l := 0x4D#8,
      sp := 0xFFFE#16, pc := 0x0100#16, ime := false, eiPending := false, halted := false, haltBug := false,
      stopped := false, cycles := 0#64, fault := none, ifr := 0b00001#5, ie := 0x00#8, unset := Unset.none,
      stepPc := 0x0100#16, bus := bus, haltBugPolicy := haltBugPolicy, stopPolicy := stopPolicy }
  | .powerOn =>
    { a := 0#8, f := 0#8, b := 0#8, c := 0#8, d := 0#8, e := 0#8, h := 0#8, l := 0#8,
      sp := 0#16, pc := 0x0000#16, ime := false, eiPending := false, halted := false, haltBug := false,
      stopped := false, cycles := 0#64, fault := none, ifr := 0#5, ie := 0#8, unset := Unset.all,
      stepPc := 0x0000#16, bus := bus, haltBugPolicy := haltBugPolicy, stopPolicy := stopPolicy }

/-- The machine right after reset with the spec's default parameters (00_scope.md R4) on RAM_BUS (20_memory.md R74), nothing
listed in memory and every address readable and writable (log entries 1 to 4, 18). -/
def State.reset : State :=
  State.resetWith .postBootDmg .reproduce .waitJoypad (.ram { mem := [], readFails := [], writeFails := [] })

end Sys2Proof.Machine
end

