-- ==== Sys2Proof/Machine/Ops.lean ====
section
/-! DEFINITION. The named operations over registers, memory and the stack, taking an interrupt and returning from one,
raising a fault. Each is an `Op`: it ends with a value and a state, or with a fault (00_scope.md R9). -/

namespace Sys2Proof.Machine

/-- What `exec` and `step` answer. -/
abbrev Res := Host.Outcome State Fault Refusal

/-- A piece of pseudocode: statements in order over the state, ended by the first fault raised (00_scope.md R9, R11). -/
abbrev Op (α : Type) := EStateM Fault State α

/-- The state at this point of the pseudocode. -/
def Op.state : Op State := fun s => .ok s s

/-- An assignment. -/
def Op.update (g : State → State) : Op Unit := fun s => .ok () (g s)

/-- `raise` (00_scope.md R9). -/
def Op.raise {α : Type} (f : State → Fault) : Op α := fun s => .error (f s) s

/-- `cycles <- (cycles + n) mod 2^64` (10_state.md R36). -/
def State.tick (s : State) (n : Nat) : State := { s with cycles := s.cycles + BitVec.ofNat 64 n }

/-- An instruction's or service's pseudocode as an outcome: the count `n` it returns is added to the counter
(60_exceptions.md R249, R250; log entry 9), a fault leaves the counter as it was (R234). -/
def runOp (op : Op Nat) (s : State) : Res :=
  match op s with
  | .ok n t => .next (t.tick n)
  | .error f _ => .fault f

/-! ### Registers -/

/-- The value of a general register. -/
def State.reg (s : State) : Reg8 → Byte
  | .b => s.b
  | .c => s.c
  | .d => s.d
  | .e => s.e
  | .h => s.h
  | .l => s.l
  | .a => s.a

/-- The UNDEF mark of a general register (10_state.md R44). -/
def Unset.reg (u : Unset) : Reg8 → Bool
  | .b => u.b
  | .c => u.c
  | .d => u.d
  | .e => u.e
  | .h => u.h
  | .l => u.l
  | .a => u.a

/-- The name an UndefinedRegisterFault gives a general register. -/
def regCell : Reg8 → RegCell
  | .b => .b
  | .c => .c
  | .d => .d
  | .e => .e
  | .h => .h
  | .l => .l
  | .a => .a

/-- `x[r] <- v` for a general register; the write gives the cell a value (10_state.md R44). -/
def State.setReg (s : State) (r : Reg8) (v : Byte) : State :=
  match r with
  | .b => { s with b := v, unset := { s.unset with b := false } }
  | .c => { s with c := v, unset := { s.unset with c := false } }
  | .d => { s with d := v, unset := { s.unset with d := false } }
  | .e => { s with e := v, unset := { s.unset with e := false } }
  | .h => { s with h := v, unset := { s.unset with h := false } }
  | .l => { s with l := v, unset := { s.unset with l := false } }
  | .a => { s with a := v, unset := { s.unset with a := false } }

/-- F as it is read: the low nibble is 0 (10_state.md R24). -/
def State.flags (s : State) : Byte := s.f &&& 0xF0#8

/-- `F <- v`: stores `v & 0xF0` (10_state.md R24). -/
def State.setF (s : State) (v : Byte) : State := { s with f := v &&& 0xF0#8, unset := { s.unset with f := false } }

/-- `SP <- v`. -/
def State.setSp (s : State) (v : Word) : State := { s with sp := v, unset := { s.unset with sp := false } }

/-- `PC <- v`. -/
def State.setPc (s : State) (v : Word) : State := { s with pc := v }

/-- A pair's value, the first-named register the high byte (10_state.md R21), or SP. -/
def State.pair (s : State) : Reg16 → Word
  | .bc => word16 s.b s.c
  | .de => word16 s.d s.e
  | .hl => word16 s.h s.l
  | .sp => s.sp
  | .af => word16 s.a s.flags

/-- A pair's read faults if either half is UNDEF (10_state.md R44). -/
def Unset.pair (u : Unset) : Reg16 → Bool
  | .bc => u.b || u.c
  | .de => u.d || u.e
  | .hl => u.h || u.l
  | .sp => u.sp
  | .af => u.a || u.f

/-- The name an UndefinedRegisterFault gives a pair. -/
def pairCell : Reg16 → RegCell
  | .bc => .bc
  | .de => .de
  | .hl => .hl
  | .sp => .sp
  | .af => .af

/-- A write of a pair: `v[15:8]` to the high register, `v[7:0]` to the low one (10_state.md R22), or SP. -/
def State.setPair (s : State) (p : Reg16) (v : Word) : State :=
  match p with
  | .bc => (s.setReg .b (hiByte v)).setReg .c (loByte v)
  | .de => (s.setReg .d (hiByte v)).setReg .e (loByte v)
  | .hl => (s.setReg .h (hiByte v)).setReg .l (loByte v)
  | .sp => s.setSp v
  | .af => (s.setReg .a (hiByte v)).setF (loByte v)

/-- `raise UndefinedRegisterFault(cell, PC = pc_at_step_start)`: the fault the spec gives a read of a cell that is UNDEF after
a `power_on` reset (10_state.md R44, 60_exceptions.md R230 code 5, R233, 92_eei_decisions.md D31). -/
def raiseUndefined {α : Type} (cell : RegCell) : Op α :=
  Op.raise fun s => .undefinedRegisterFault cell s.stepPc s.bus

/-- A read of a cell: the value, or the fault of 10_state.md R44 if the cell is UNDEF. -/
def readCell {α : Type} (cell : RegCell) (undef : State → Bool) (value : State → α) : Op α := fun s =>
  if undef s then raiseUndefined cell s else .ok (value s) s

/-- `x[r]`. -/
def readReg (r : Reg8) : Op Byte := readCell (regCell r) (fun s => s.unset.reg r) fun s => s.reg r

/-- `x[r] <- v`. -/
def writeReg (r : Reg8) (v : Byte) : Op Unit := Op.update fun s => s.setReg r v

/-- A read of a pair or SP. -/
def readPair (p : Reg16) : Op Word := readCell (pairCell p) (fun s => s.unset.pair p) fun s => s.pair p

/-- A write of a pair or SP. -/
def writePair (p : Reg16) (v : Word) : Op Unit := Op.update fun s => s.setPair p v

/-- A read of F. -/
def readF : Op Byte := readCell .f (fun s => s.unset.f) fun s => s.flags

/-- A read of `IF[4:0]`. -/
def readIf : Op (BitVec 5) := readCell .ifr (fun s => s.unset.ifr) fun s => s.ifr

/-- A read of IE. -/
def readIe : Op Byte := readCell .ie (fun s => s.unset.ie) fun s => s.ie

/-- `PC <- v`. -/
def writePc (v : Word) : Op Unit := Op.update fun s => s.setPc v

/-- A flag update: `some b` sets the flag to `b`, `none` leaves it. An update that keeps a flag reads F (10_state.md R44). -/
def setFlags (z n h c : Option Bool) : Op Unit :=
  match z, n, h, c with
  | some z, some n, some h, some c => Op.update fun s => s.setF (packFlags z n h c)
  | z, n, h, c => do
    let f ← readF
    Op.update fun s =>
      s.setF (packFlags (z.getD (flagZ f)) (n.getD (flagN f)) (h.getD (flagH f)) (c.getD (flagC f)))

/-- `cin`, F.C at the start of the instruction, read only by the operations that use it. -/
def readCarryIf (uses : Bool) : Op Bool :=
  if uses then do
    let f ← readF
    return flagC f
  else
    return false

/-! ### Memory -/

/-- The address of IF (20_memory.md R53). -/
def ifAddr : Word := 0xFF0F#16

/-- The address of IE (20_memory.md R53). -/
def ieAddr : Word := 0xFFFF#16

/-- `IF[4:0] <- v[4:0]` (20_memory.md R55). -/
def State.setIf (s : State) (v : Byte) : State :=
  { s with ifr := v.extractLsb' 0 5, unset := { s.unset with ifr := false } }

/-- `IE <- v` (20_memory.md R55). -/
def State.setIe (s : State) (v : Byte) : State := { s with ie := v, unset := { s.unset with ie := false } }

/-- The state with the bus in another state. -/
def State.setBus (s : State) (b : Bus) : State := { s with bus := b }

/-- `r <- BUS.readByte(a)`, with BusFault on its failure (20_memory.md R51, R54). -/
def busRead (a : Word) : Op Byte := fun s =>
  match (s.bus.readByte a).1 with
  | some v => .ok v (s.setBus (s.bus.readByte a).2)
  | none => Op.raise (fun t => .busFault (.read a) t.stepPc t.bus) (s.setBus (s.bus.readByte a).2)

/-- `r <- BUS.writeByte(a, v)`, with BusFault on its failure (20_memory.md R52, R55). -/
def busWrite (a : Word) (v : Byte) : Op Unit := fun s =>
  if (s.bus.writeByte a v).1 then .ok () (s.setBus (s.bus.writeByte a v).2)
  else Op.raise (fun t => .busFault (.write a v) t.stepPc t.bus) (s.setBus (s.bus.writeByte a v).2)

/-- `MemRead8` (20_memory.md R54). -/
def memRead8 (a : Word) : Op Byte :=
  if a = ifAddr then do
    let v ← readIf
    return 0xE0#8 ||| v.zeroExtend 8
  else if a = ieAddr then readIe
  else busRead a

/-- `MemWrite8` (20_memory.md R55). -/
def memWrite8 (a : Word) (v : Byte) : Op Unit :=
  if a = ifAddr then Op.update fun s => s.setIf v
  else if a = ieAddr then Op.update fun s => s.setIe v
  else busWrite a v

/-- `MemRead16` (20_memory.md R56). -/
def memRead16 (a : Word) : Op Word := do
  let lo ← memRead8 a
  let hi ← memRead8 (inc16 a)
  return word16 hi lo

/-- `MemWrite16` (20_memory.md R57). -/
def memWrite16 (a v : Word) : Op Unit := do
  memWrite8 a (loByte v)
  memWrite8 (inc16 a) (hiByte v)

/-- PC after a fetch: the halt quirk keeps it once (20_memory.md R60). -/
def State.afterFetch (s : State) : State :=
  if s.haltBug then { s with haltBug := false } else { s with pc := inc16 s.pc }

/-- `Fetch8` (20_memory.md R60). -/
def fetch8 : Op Byte := do
  let s ← Op.state
  let v ← memRead8 s.pc
  Op.update State.afterFetch
  return v

/-- `Fetch16` (20_memory.md R61). -/
def fetch16 : Op Word := do
  let lo ← fetch8
  let hi ← fetch8
  return word16 hi lo

/-! ### The stack -/

/-- `Push16` (42_load16_stack.md R140). -/
def push16 (v : Word) : Op Unit := do
  let sp ← readPair .sp
  writePair .sp (dec16 sp)
  memWrite8 (dec16 sp) (hiByte v)
  writePair .sp (dec16 (dec16 sp))
  memWrite8 (dec16 (dec16 sp)) (loByte v)

/-- `Pop16` (42_load16_stack.md R141). -/
def pop16 : Op Word := do
  let sp ← readPair .sp
  let lo ← memRead8 sp
  writePair .sp (inc16 sp)
  let hi ← memRead8 (inc16 sp)
  writePair .sp (inc16 (inc16 sp))
  return word16 hi lo

/-! ### Interrupts -/

/-- `pending = IE & IF & 0x1F` (60_exceptions.md R238). -/
def pendingOf (ie : Byte) (ifr : BitVec 5) : BitVec 5 := ie.extractLsb' 0 5 &&& ifr

/-- A read of `pending`: IE, then IF (log entry 6, DEDUCED). -/
def readPending : Op (BitVec 5) := do
  let ie ← readIe
  let ifr ← readIf
  return pendingOf ie ifr

/-- The index of the lowest set bit (60_exceptions.md R239); for no bit set, which no caller passes, the last index. -/
def lowestSource (p : BitVec 5) : Nat :=
  if p.getLsbD 0 then 0
  else if p.getLsbD 1 then 1
  else if p.getLsbD 2 then 2
  else if p.getLsbD 3 then 3
  else 4

/-- `0x0040 + 8 * i` (10_state.md R40, 60_exceptions.md R240). -/
def vectorOf (i : Nat) : Word := BitVec.ofNat 16 (0x0040 + 8 * i)

/-- `IF[i] <- 0`. -/
def clearIfBit (ifr : BitVec 5) (i : Nat) : BitVec 5 := ifr &&& ~~~(1#5 <<< i)

/-- The address service pushes: PC, or PC − 1 under the halt quirk (60_exceptions.md R240). -/
def serviceReturn (s : State) : Word := if s.haltBug then dec16 s.pc else s.pc

/-- TAKING AN INTERRUPT: `Service()` of 60_exceptions.md R240, 20 cycles (R241). PC is saved on the stack, ime and
ei_pending are cleared, the serviced IF bit is cleared, PC goes to the source's vector. -/
def service : Op Nat := do
  let p ← readPending
  let s ← Op.state
  let i := lowestSource p
  Op.update fun t => { t with ime := false, eiPending := false, ifr := clearIfBit t.ifr i, haltBug := false }
  push16 (serviceReturn s)
  writePc (vectorOf i)
  return 20

/-- THE RETURN FROM AN INTERRUPT: PC is popped and ime set at once (46_control.md R210, 60_exceptions.md R245). -/
def returnFromInterrupt : Op Unit := do
  let pc ← pop16
  writePc pc
  Op.update fun s => { s with ime := true, eiPending := false }

/-! ### Faults -/

/-- `raise DecodeFault(PC = pc0, opcode, cycles)` (30_encoding.md R96, R97; 60_exceptions.md R231). -/
def raiseDecodeFault {α : Type} (opcode : Byte) : Op α :=
  Op.raise fun s => .decodeFault s.stepPc opcode s.cycles s.bus

/-- `raise HaltBugFault(PC = pc0)` (60_exceptions.md R233). -/
def raiseHaltBugFault {α : Type} : Op α := Op.raise fun s => .haltBugFault s.stepPc s.bus

/-- `raise StopFault(PC = pc0)` (60_exceptions.md R233). -/
def raiseStopFault {α : Type} : Op α := Op.raise fun s => .stopFault s.stepPc s.bus

/-- The cause code of a fault (60_exceptions.md R230). -/
def Fault.code : Fault → Nat
  | .decodeFault _ _ _ _ => 1
  | .busFault _ _ _ => 2
  | .haltBugFault _ _ => 3
  | .stopFault _ _ => 4
  | .undefinedRegisterFault _ _ _ => 5

/-- The bus as a fault leaves it: the accesses made before the fault stay (60_exceptions.md R235). -/
def Fault.bus : Fault → Bus
  | .decodeFault _ _ _ bus => bus
  | .busFault _ _ bus => bus
  | .haltBugFault _ bus => bus
  | .stopFault _ bus => bus
  | .undefinedRegisterFault _ _ bus => bus

end Sys2Proof.Machine
end

