-- ==== Sys2Proof/Machine/Operands.lean ====
section
/-! DEFINITION. The operand forms of the addressing-mode resolver (30_encoding.md R102 to R110), each written once. The
immediates are already fetched (R108): they are arguments of the instruction. -/

namespace Sys2Proof.Machine

/-- Reading an operand `r8[n]`: a register (30_encoding.md R102) or the byte at HL (R103). -/
def readOpnd : Opnd8 → Op Byte
  | .reg r => readReg r
  | .indHl => do
    let a ← readPair .hl
    memRead8 a

/-- Writing an operand `r8[n]`, with HL taken when the access is made (30_encoding.md R103): the address before the
value (log entry 6). -/
def writeOpnd (o : Opnd8) (value : Op Byte) : Op Unit :=
  match o with
  | .reg r => do
    let v ← value
    writeReg r v
  | .indHl => do
    let a ← readPair .hl
    let v ← value
    memWrite8 a v

/-- A read-modify-write of an operand: one read and one write at the same place (30_encoding.md R103). The old value is
returned. -/
def modifyOpnd (o : Opnd8) (g : Byte → Byte) : Op Byte :=
  match o with
  | .reg r => do
    let v ← readReg r
    writeReg r (g v)
    return v
  | .indHl => do
    let a ← readPair .hl
    let v ← memRead8 a
    memWrite8 a (g v)
    return v

/-- The second operand `b` of the ALU group (43_alu8.md R150). -/
def readSrc : Src8 → Op Byte
  | .reg r => readOpnd (.reg r)
  | .indHl => readOpnd .indHl
  | .imm n => return n

/-- `0xFF00 + n` (30_encoding.md R94, R95). -/
def highPage (n : Byte) : Word := word16 0xFF#8 n

/-- The address of a memory operand in a state (30_encoding.md R104 to R107). -/
def memAddress (m : MemOpnd) (s : State) : Word :=
  match m with
  | .indBc => s.pair .bc
  | .indDe => s.pair .de
  | .indHlInc => s.pair .hl
  | .indHlDec => s.pair .hl
  | .abs a => a
  | .high n => highPage n
  | .highC => highPage s.c

/-- The read of the register or pair a memory operand takes its address from, if any: it faults where that cell is UNDEF. -/
def checkAddr : MemOpnd → Op Unit
  | .indBc => do
    let _ ← readPair .bc
  | .indDe => do
    let _ ← readPair .de
  | .indHlInc => do
    let _ ← readPair .hl
  | .indHlDec => do
    let _ ← readPair .hl
  | .abs _ => return ()
  | .high _ => return ()
  | .highC => do
    let _ ← readReg .c

/-- Resolving a memory operand's address (30_encoding.md R104 to R107). -/
def addrOf (m : MemOpnd) : Op Word := do
  checkAddr m
  let s ← Op.state
  return memAddress m s

/-- What a memory operand does to HL after its access at `a`: (HL+) and (HL-) move it (30_encoding.md R104). -/
def State.afterAccess (s : State) (m : MemOpnd) (a : Word) : State :=
  match m with
  | .indBc => s
  | .indDe => s
  | .indHlInc => s.setPair .hl (inc16 a)
  | .indHlDec => s.setPair .hl (dec16 a)
  | .abs _ => s
  | .high _ => s
  | .highC => s

/-- The target of a relative jump (30_encoding.md R109): PC is already past the displacement byte. -/
def relTarget (s : State) (e : Byte) : Word := s.pc + sext16 e

end Sys2Proof.Machine
end

