-- ==== Sys2Proof/Machine/Alu16.lean ====
section
/-! DEFINITION. The 16-bit arithmetic (44_alu16.md R170 to R173). -/

namespace Sys2Proof.Machine

/-- `rp[p] <- rp[p] + 1`, no flag (44_alu16.md R170). -/
def incRpOp (p : Rp) (n : Nat) : Op Nat := do
  let v ← readPair p.reg16
  writePair p.reg16 (inc16 v)
  return n

/-- `rp[p] <- rp[p] − 1`, no flag (44_alu16.md R171). -/
def decRpOp (p : Rp) (n : Nat) : Op Nat := do
  let v ← readPair p.reg16
  writePair p.reg16 (dec16 v)
  return n

/-- `HL <- HL + rp[p]`, Z kept (44_alu16.md R172). -/
def addHlOp (p : Rp) (n : Nat) : Op Nat := do
  let v ← readPair p.reg16
  let hl ← readPair .hl
  let r := addHl16 hl v
  setFlags none (some false) (some r.2.1) (some r.2.2)
  writePair .hl r.1
  return n

/-- `SP <- SP + sext_16(e)` with the flags of the low byte (44_alu16.md R173). -/
def addSpOp (e : Byte) (n : Nat) : Op Nat := do
  let sp ← readPair .sp
  let r := addSpDisp sp e
  setFlags (some false) (some false) (some r.2.1) (some r.2.2)
  writePair .sp r.1
  return n

/-- INC BC (R170). -/
def execIncBc (s : State) : Res := runOp (incRpOp .bc 8) s

/-- ADD HL,BC (R172). -/
def execAddHlBc (s : State) : Res := runOp (addHlOp .bc 8) s

/-- DEC BC (R171). -/
def execDecBc (s : State) : Res := runOp (decRpOp .bc 8) s

/-- INC DE (R170). -/
def execIncDe (s : State) : Res := runOp (incRpOp .de 8) s

/-- ADD HL,DE (R172). -/
def execAddHlDe (s : State) : Res := runOp (addHlOp .de 8) s

/-- DEC DE (R171). -/
def execDecDe (s : State) : Res := runOp (decRpOp .de 8) s

/-- INC HL (R170). -/
def execIncHl (s : State) : Res := runOp (incRpOp .hl 8) s

/-- ADD HL,HL (R172). -/
def execAddHlHl (s : State) : Res := runOp (addHlOp .hl 8) s

/-- DEC HL (R171). -/
def execDecHl (s : State) : Res := runOp (decRpOp .hl 8) s

/-- INC SP (R170). -/
def execIncSp (s : State) : Res := runOp (incRpOp .sp 8) s

/-- ADD HL,SP (R172). -/
def execAddHlSp (s : State) : Res := runOp (addHlOp .sp 8) s

/-- DEC SP (R171). -/
def execDecSp (s : State) : Res := runOp (decRpOp .sp 8) s

/-- ADD SP,e8 (R173). -/
def execAddSpE8 (e : Byte) (s : State) : Res := runOp (addSpOp e 16) s

end Sys2Proof.Machine
end

