-- ==== Sys2Proof/Machine/Alu8.lean ====
section
/-! DEFINITION. The 8-bit arithmetic and logic (43_alu8.md R150 to R166). -/

namespace Sys2Proof.Machine

/-- `A <- A op b` with its flags (43_alu8.md R150 to R158). CP writes no destination (R158). -/
def aluOp (op : AluOp) (src : Src8) (n : Nat) : Op Nat := do
  let cin ← readCarryIf (aluUsesCarry op)
  let b ← readSrc src
  let a ← readReg .a
  let r := alu8 op a b cin
  match op with
  | .cp => setFlags (some r.z) (some r.n) (some r.h) (some r.c)
  | .add | .adc | .sub | .sbc | .and | .xor | .or => do
    writeReg .a r.value
    setFlags (some r.z) (some r.n) (some r.h) (some r.c)
  return n

/-- `r8[y] <- r8[y] + 1`, C kept (43_alu8.md R159, R160). -/
def incOp (o : Opnd8) (n : Nat) : Op Nat := do
  let v ← modifyOpnd o inc8
  setFlags (some (decide (inc8 v = 0#8))) (some false) (some (incHalf v)) none
  return n

/-- `r8[y] <- r8[y] − 1`, C kept (43_alu8.md R161, R162). -/
def decOp (o : Opnd8) (n : Nat) : Op Nat := do
  let v ← modifyOpnd o dec8
  setFlags (some (decide (dec8 v = 0#8))) (some true) (some (decHalf v)) none
  return n

/-- DAA, N kept (43_alu8.md R163). -/
def daaOp (n : Nat) : Op Nat := do
  let a ← readReg .a
  let f ← readF
  let r := daa8 a (flagN f) (flagH f) (flagC f)
  writeReg .a r.1
  setFlags (some (decide (r.1 = 0#8))) none (some false) (some r.2)
  return n

/-- CPL (43_alu8.md R164). -/
def cplOp (n : Nat) : Op Nat := do
  let a ← readReg .a
  writeReg .a (~~~a)
  setFlags none (some true) (some true) none
  return n

/-- SCF (43_alu8.md R165). -/
def scfOp (n : Nat) : Op Nat := do
  setFlags none (some false) (some false) (some true)
  return n

/-- CCF (43_alu8.md R166). -/
def ccfOp (n : Nat) : Op Nat := do
  let f ← readF
  setFlags none (some false) (some false) (some (!flagC f))
  return n

/-- INC B (R159). -/
def execIncB (s : State) : Res := runOp (incOp (.reg .b) 4) s

/-- DEC B (R161). -/
def execDecB (s : State) : Res := runOp (decOp (.reg .b) 4) s

/-- INC C (R159). -/
def execIncC (s : State) : Res := runOp (incOp (.reg .c) 4) s

/-- DEC C (R161). -/
def execDecC (s : State) : Res := runOp (decOp (.reg .c) 4) s

/-- INC D (R159). -/
def execIncD (s : State) : Res := runOp (incOp (.reg .d) 4) s

/-- DEC D (R161). -/
def execDecD (s : State) : Res := runOp (decOp (.reg .d) 4) s

/-- INC E (R159). -/
def execIncE (s : State) : Res := runOp (incOp (.reg .e) 4) s

/-- DEC E (R161). -/
def execDecE (s : State) : Res := runOp (decOp (.reg .e) 4) s

/-- INC H (R159). -/
def execIncH (s : State) : Res := runOp (incOp (.reg .h) 4) s

/-- DEC H (R161). -/
def execDecH (s : State) : Res := runOp (decOp (.reg .h) 4) s

/-- DAA (R163). -/
def execDaa (s : State) : Res := runOp (daaOp 4) s

/-- INC L (R159). -/
def execIncL (s : State) : Res := runOp (incOp (.reg .l) 4) s

/-- DEC L (R161). -/
def execDecL (s : State) : Res := runOp (decOp (.reg .l) 4) s

/-- CPL (R164). -/
def execCpl (s : State) : Res := runOp (cplOp 4) s

/-- INC (HL) (R160). -/
def execIncIndHl (s : State) : Res := runOp (incOp .indHl 12) s

/-- DEC (HL) (R162). -/
def execDecIndHl (s : State) : Res := runOp (decOp .indHl 12) s

/-- SCF (R165). -/
def execScf (s : State) : Res := runOp (scfOp 4) s

/-- INC A (R159). -/
def execIncA (s : State) : Res := runOp (incOp (.reg .a) 4) s

/-- DEC A (R161). -/
def execDecA (s : State) : Res := runOp (decOp (.reg .a) 4) s

/-- CCF (R166). -/
def execCcf (s : State) : Res := runOp (ccfOp 4) s

/-- ADD A,B (R151). -/
def execAddAB (s : State) : Res := runOp (aluOp .add (.reg .b) 4) s

/-- ADD A,C (R151). -/
def execAddAC (s : State) : Res := runOp (aluOp .add (.reg .c) 4) s

/-- ADD A,D (R151). -/
def execAddAD (s : State) : Res := runOp (aluOp .add (.reg .d) 4) s

/-- ADD A,E (R151). -/
def execAddAE (s : State) : Res := runOp (aluOp .add (.reg .e) 4) s

/-- ADD A,H (R151). -/
def execAddAH (s : State) : Res := runOp (aluOp .add (.reg .h) 4) s

/-- ADD A,L (R151). -/
def execAddAL (s : State) : Res := runOp (aluOp .add (.reg .l) 4) s

/-- ADD A,(HL) (R151). -/
def execAddAIndHl (s : State) : Res := runOp (aluOp .add .indHl 8) s

/-- ADD A,A (R151). -/
def execAddAA (s : State) : Res := runOp (aluOp .add (.reg .a) 4) s

/-- ADC A,B (R152). -/
def execAdcAB (s : State) : Res := runOp (aluOp .adc (.reg .b) 4) s

/-- ADC A,C (R152). -/
def execAdcAC (s : State) : Res := runOp (aluOp .adc (.reg .c) 4) s

/-- ADC A,D (R152). -/
def execAdcAD (s : State) : Res := runOp (aluOp .adc (.reg .d) 4) s

/-- ADC A,E (R152). -/
def execAdcAE (s : State) : Res := runOp (aluOp .adc (.reg .e) 4) s

/-- ADC A,H (R152). -/
def execAdcAH (s : State) : Res := runOp (aluOp .adc (.reg .h) 4) s

/-- ADC A,L (R152). -/
def execAdcAL (s : State) : Res := runOp (aluOp .adc (.reg .l) 4) s

/-- ADC A,(HL) (R152). -/
def execAdcAIndHl (s : State) : Res := runOp (aluOp .adc .indHl 8) s

/-- ADC A,A (R152). -/
def execAdcAA (s : State) : Res := runOp (aluOp .adc (.reg .a) 4) s

/-- SUB B (R153). -/
def execSubB (s : State) : Res := runOp (aluOp .sub (.reg .b) 4) s

/-- SUB C (R153). -/
def execSubC (s : State) : Res := runOp (aluOp .sub (.reg .c) 4) s

/-- SUB D (R153). -/
def execSubD (s : State) : Res := runOp (aluOp .sub (.reg .d) 4) s

/-- SUB E (R153). -/
def execSubE (s : State) : Res := runOp (aluOp .sub (.reg .e) 4) s

/-- SUB H (R153). -/
def execSubH (s : State) : Res := runOp (aluOp .sub (.reg .h) 4) s

/-- SUB L (R153). -/
def execSubL (s : State) : Res := runOp (aluOp .sub (.reg .l) 4) s

/-- SUB (HL) (R153). -/
def execSubIndHl (s : State) : Res := runOp (aluOp .sub .indHl 8) s

/-- SUB A (R153). -/
def execSubA (s : State) : Res := runOp (aluOp .sub (.reg .a) 4) s

/-- SBC A,B (R154). -/
def execSbcAB (s : State) : Res := runOp (aluOp .sbc (.reg .b) 4) s

/-- SBC A,C (R154). -/
def execSbcAC (s : State) : Res := runOp (aluOp .sbc (.reg .c) 4) s

/-- SBC A,D (R154). -/
def execSbcAD (s : State) : Res := runOp (aluOp .sbc (.reg .d) 4) s

/-- SBC A,E (R154). -/
def execSbcAE (s : State) : Res := runOp (aluOp .sbc (.reg .e) 4) s

/-- SBC A,H (R154). -/
def execSbcAH (s : State) : Res := runOp (aluOp .sbc (.reg .h) 4) s

/-- SBC A,L (R154). -/
def execSbcAL (s : State) : Res := runOp (aluOp .sbc (.reg .l) 4) s

/-- SBC A,(HL) (R154). -/
def execSbcAIndHl (s : State) : Res := runOp (aluOp .sbc .indHl 8) s

/-- SBC A,A (R154). -/
def execSbcAA (s : State) : Res := runOp (aluOp .sbc (.reg .a) 4) s

/-- AND B (R155). -/
def execAndB (s : State) : Res := runOp (aluOp .and (.reg .b) 4) s

/-- AND C (R155). -/
def execAndC (s : State) : Res := runOp (aluOp .and (.reg .c) 4) s

/-- AND D (R155). -/
def execAndD (s : State) : Res := runOp (aluOp .and (.reg .d) 4) s

/-- AND E (R155). -/
def execAndE (s : State) : Res := runOp (aluOp .and (.reg .e) 4) s

/-- AND H (R155). -/
def execAndH (s : State) : Res := runOp (aluOp .and (.reg .h) 4) s

/-- AND L (R155). -/
def execAndL (s : State) : Res := runOp (aluOp .and (.reg .l) 4) s

/-- AND (HL) (R155). -/
def execAndIndHl (s : State) : Res := runOp (aluOp .and .indHl 8) s

/-- AND A (R155). -/
def execAndA (s : State) : Res := runOp (aluOp .and (.reg .a) 4) s

/-- XOR B (R156). -/
def execXorB (s : State) : Res := runOp (aluOp .xor (.reg .b) 4) s

/-- XOR C (R156). -/
def execXorC (s : State) : Res := runOp (aluOp .xor (.reg .c) 4) s

/-- XOR D (R156). -/
def execXorD (s : State) : Res := runOp (aluOp .xor (.reg .d) 4) s

/-- XOR E (R156). -/
def execXorE (s : State) : Res := runOp (aluOp .xor (.reg .e) 4) s

/-- XOR H (R156). -/
def execXorH (s : State) : Res := runOp (aluOp .xor (.reg .h) 4) s

/-- XOR L (R156). -/
def execXorL (s : State) : Res := runOp (aluOp .xor (.reg .l) 4) s

/-- XOR (HL) (R156). -/
def execXorIndHl (s : State) : Res := runOp (aluOp .xor .indHl 8) s

/-- XOR A (R156). -/
def execXorA (s : State) : Res := runOp (aluOp .xor (.reg .a) 4) s

/-- OR B (R157). -/
def execOrB (s : State) : Res := runOp (aluOp .or (.reg .b) 4) s

/-- OR C (R157). -/
def execOrC (s : State) : Res := runOp (aluOp .or (.reg .c) 4) s

/-- OR D (R157). -/
def execOrD (s : State) : Res := runOp (aluOp .or (.reg .d) 4) s

/-- OR E (R157). -/
def execOrE (s : State) : Res := runOp (aluOp .or (.reg .e) 4) s

/-- OR H (R157). -/
def execOrH (s : State) : Res := runOp (aluOp .or (.reg .h) 4) s

/-- OR L (R157). -/
def execOrL (s : State) : Res := runOp (aluOp .or (.reg .l) 4) s

/-- OR (HL) (R157). -/
def execOrIndHl (s : State) : Res := runOp (aluOp .or .indHl 8) s

/-- OR A (R157). -/
def execOrA (s : State) : Res := runOp (aluOp .or (.reg .a) 4) s

/-- CP B (R158). -/
def execCpB (s : State) : Res := runOp (aluOp .cp (.reg .b) 4) s

/-- CP C (R158). -/
def execCpC (s : State) : Res := runOp (aluOp .cp (.reg .c) 4) s

/-- CP D (R158). -/
def execCpD (s : State) : Res := runOp (aluOp .cp (.reg .d) 4) s

/-- CP E (R158). -/
def execCpE (s : State) : Res := runOp (aluOp .cp (.reg .e) 4) s

/-- CP H (R158). -/
def execCpH (s : State) : Res := runOp (aluOp .cp (.reg .h) 4) s

/-- CP L (R158). -/
def execCpL (s : State) : Res := runOp (aluOp .cp (.reg .l) 4) s

/-- CP (HL) (R158). -/
def execCpIndHl (s : State) : Res := runOp (aluOp .cp .indHl 8) s

/-- CP A (R158). -/
def execCpA (s : State) : Res := runOp (aluOp .cp (.reg .a) 4) s

/-- ADD A,d8 (R151). -/
def execAddAD8 (n : Byte) (s : State) : Res := runOp (aluOp .add (.imm n) 8) s

/-- ADC A,d8 (R152). -/
def execAdcAD8 (n : Byte) (s : State) : Res := runOp (aluOp .adc (.imm n) 8) s

/-- SUB d8 (R153). -/
def execSubD8 (n : Byte) (s : State) : Res := runOp (aluOp .sub (.imm n) 8) s

/-- SBC A,d8 (R154). -/
def execSbcAD8 (n : Byte) (s : State) : Res := runOp (aluOp .sbc (.imm n) 8) s

/-- AND d8 (R155). -/
def execAndD8 (n : Byte) (s : State) : Res := runOp (aluOp .and (.imm n) 8) s

/-- XOR d8 (R156). -/
def execXorD8 (n : Byte) (s : State) : Res := runOp (aluOp .xor (.imm n) 8) s

/-- OR d8 (R157). -/
def execOrD8 (n : Byte) (s : State) : Res := runOp (aluOp .or (.imm n) 8) s

/-- CP d8 (R158). -/
def execCpD8 (n : Byte) (s : State) : Res := runOp (aluOp .cp (.imm n) 8) s

end Sys2Proof.Machine
end

