-- ==== Sys2Proof/Machine/Control.lean ====
section
/-! DEFINITION. The control flow (46_control.md R200 to R212). PC is already past the instruction's bytes. -/

namespace Sys2Proof.Machine

/-- `PC <- a` (46_control.md R201). -/
def jpOp (a : Word) (n : Nat) : Op Nat := do
  writePc a
  return n

/-- `JP cc,a16` (46_control.md R202). -/
def jpCcOp (k : Cond) (a : Word) (taken notTaken : Nat) : Op Nat := do
  let f ← readF
  if condHolds k f then do
    writePc a
    return taken
  else
    return notTaken

/-- `PC <- HL` (46_control.md R203). -/
def jpHlOp (n : Nat) : Op Nat := do
  let a ← readPair .hl
  writePc a
  return n

/-- `PC <- PC + sext_16(e)` (46_control.md R204). -/
def jrOp (e : Byte) (n : Nat) : Op Nat := do
  let s ← Op.state
  writePc (relTarget s e)
  return n

/-- `JR cc,e8` (46_control.md R205). -/
def jrCcOp (k : Cond) (e : Byte) (taken notTaken : Nat) : Op Nat := do
  let f ← readF
  if condHolds k f then do
    let s ← Op.state
    writePc (relTarget s e)
    return taken
  else
    return notTaken

/-- `Push16(PC); PC <- a` (46_control.md R206, R211). -/
def callTo (a : Word) : Op Unit := do
  let s ← Op.state
  push16 s.pc
  writePc a

/-- `CALL a16` (46_control.md R206). -/
def callOp (a : Word) (n : Nat) : Op Nat := do
  callTo a
  return n

/-- `CALL cc,a16` (46_control.md R207). -/
def callCcOp (k : Cond) (a : Word) (taken notTaken : Nat) : Op Nat := do
  let f ← readF
  if condHolds k f then do
    callTo a
    return taken
  else
    return notTaken

/-- `PC <- Pop16()` (46_control.md R208). -/
def retTo : Op Unit := do
  let a ← pop16
  writePc a

/-- `RET` (46_control.md R208). -/
def retOp (n : Nat) : Op Nat := do
  retTo
  return n

/-- `RET cc` (46_control.md R209). -/
def retCcOp (k : Cond) (taken notTaken : Nat) : Op Nat := do
  let f ← readF
  if condHolds k f then do
    retTo
    return taken
  else
    return notTaken

/-- `RETI` (46_control.md R210). -/
def retiOp (n : Nat) : Op Nat := do
  returnFromInterrupt
  return n

/-- `RST` (46_control.md R211). -/
def rstOp (target : Word) (n : Nat) : Op Nat := do
  callTo target
  return n

/-- JR e8 (R204). -/
def execJrE8 (e : Byte) (s : State) : Res := runOp (jrOp e 12) s

/-- JR NZ,e8 (R205). -/
def execJrNzE8 (e : Byte) (s : State) : Res := runOp (jrCcOp .nz e 12 8) s

/-- JR Z,e8 (R205). -/
def execJrZE8 (e : Byte) (s : State) : Res := runOp (jrCcOp .z e 12 8) s

/-- JR NC,e8 (R205). -/
def execJrNcE8 (e : Byte) (s : State) : Res := runOp (jrCcOp .nc e 12 8) s

/-- JR C,e8 (R205). -/
def execJrCE8 (e : Byte) (s : State) : Res := runOp (jrCcOp .c e 12 8) s

/-- RET NZ (R209). -/
def execRetNz (s : State) : Res := runOp (retCcOp .nz 20 8) s

/-- JP NZ,a16 (R202). -/
def execJpNzA16 (a : Word) (s : State) : Res := runOp (jpCcOp .nz a 16 12) s

/-- JP a16 (R201). -/
def execJpA16 (a : Word) (s : State) : Res := runOp (jpOp a 16) s

/-- CALL NZ,a16 (R207). -/
def execCallNzA16 (a : Word) (s : State) : Res := runOp (callCcOp .nz a 24 12) s

/-- RST 00H (R211). -/
def execRst00h (s : State) : Res := runOp (rstOp 0x0000#16 16) s

/-- RET Z (R209). -/
def execRetZ (s : State) : Res := runOp (retCcOp .z 20 8) s

/-- RET (R208). -/
def execRet (s : State) : Res := runOp (retOp 16) s

/-- JP Z,a16 (R202). -/
def execJpZA16 (a : Word) (s : State) : Res := runOp (jpCcOp .z a 16 12) s

/-- CALL Z,a16 (R207). -/
def execCallZA16 (a : Word) (s : State) : Res := runOp (callCcOp .z a 24 12) s

/-- CALL a16 (R206). -/
def execCallA16 (a : Word) (s : State) : Res := runOp (callOp a 24) s

/-- RST 08H (R211). -/
def execRst08h (s : State) : Res := runOp (rstOp 0x0008#16 16) s

/-- RET NC (R209). -/
def execRetNc (s : State) : Res := runOp (retCcOp .nc 20 8) s

/-- JP NC,a16 (R202). -/
def execJpNcA16 (a : Word) (s : State) : Res := runOp (jpCcOp .nc a 16 12) s

/-- CALL NC,a16 (R207). -/
def execCallNcA16 (a : Word) (s : State) : Res := runOp (callCcOp .nc a 24 12) s

/-- RST 10H (R211). -/
def execRst10h (s : State) : Res := runOp (rstOp 0x0010#16 16) s

/-- RET C (R209). -/
def execRetC (s : State) : Res := runOp (retCcOp .c 20 8) s

/-- RETI (R210). -/
def execReti (s : State) : Res := runOp (retiOp 16) s

/-- JP C,a16 (R202). -/
def execJpCA16 (a : Word) (s : State) : Res := runOp (jpCcOp .c a 16 12) s

/-- CALL C,a16 (R207). -/
def execCallCA16 (a : Word) (s : State) : Res := runOp (callCcOp .c a 24 12) s

/-- RST 18H (R211). -/
def execRst18h (s : State) : Res := runOp (rstOp 0x0018#16 16) s

/-- RST 20H (R211). -/
def execRst20h (s : State) : Res := runOp (rstOp 0x0020#16 16) s

/-- JP HL (R203). -/
def execJpHl (s : State) : Res := runOp (jpHlOp 4) s

/-- RST 28H (R211). -/
def execRst28h (s : State) : Res := runOp (rstOp 0x0028#16 16) s

/-- RST 30H (R211). -/
def execRst30h (s : State) : Res := runOp (rstOp 0x0030#16 16) s

/-- RST 38H (R211). -/
def execRst38h (s : State) : Res := runOp (rstOp 0x0038#16 16) s

end Sys2Proof.Machine
end

