-- ==== Sys2Proof/Machine/Load16.lean ====
section
/-! DEFINITION. The 16-bit loads, the stack and LD HL,SP+e8 (42_load16_stack.md R142 to R148). -/

namespace Sys2Proof.Machine

/-- `rp[p] <- d16` (42_load16_stack.md R142). -/
def ldRpOp (p : Rp) (v : Word) (n : Nat) : Op Nat := do
  writePair p.reg16 v
  return n

/-- `MemWrite16(a, SP)` (42_load16_stack.md R143). -/
def storeSpOp (a : Word) (n : Nat) : Op Nat := do
  let sp ← readPair .sp
  memWrite16 a sp
  return n

/-- `SP <- HL` (42_load16_stack.md R144). -/
def ldSpHlOp (n : Nat) : Op Nat := do
  let v ← readPair .hl
  writePair .sp v
  return n

/-- `Push16(rp2[p])` (42_load16_stack.md R145). -/
def pushOp (p : Rp2) (n : Nat) : Op Nat := do
  let v ← readPair p.reg16
  push16 v
  return n

/-- `rp2[p] <- Pop16()` (42_load16_stack.md R146, R147). -/
def popOp (p : Rp2) (n : Nat) : Op Nat := do
  let v ← pop16
  writePair p.reg16 v
  return n

/-- `HL <- SP + sext_16(e)` with the flags of the low byte (42_load16_stack.md R148). -/
def ldHlSpOp (e : Byte) (n : Nat) : Op Nat := do
  let sp ← readPair .sp
  let r := addSpDisp sp e
  writePair .hl r.1
  setFlags (some false) (some false) (some r.2.1) (some r.2.2)
  return n

/-- LD BC,d16 (R142). -/
def execLdBcD16 (n : Word) (s : State) : Res := runOp (ldRpOp .bc n 12) s

/-- LD (a16),SP (R143). -/
def execLdIndA16Sp (a : Word) (s : State) : Res := runOp (storeSpOp a 20) s

/-- LD DE,d16 (R142). -/
def execLdDeD16 (n : Word) (s : State) : Res := runOp (ldRpOp .de n 12) s

/-- LD HL,d16 (R142). -/
def execLdHlD16 (n : Word) (s : State) : Res := runOp (ldRpOp .hl n 12) s

/-- LD SP,d16 (R142). -/
def execLdSpD16 (n : Word) (s : State) : Res := runOp (ldRpOp .sp n 12) s

/-- POP BC (R146). -/
def execPopBc (s : State) : Res := runOp (popOp .bc 12) s

/-- PUSH BC (R145). -/
def execPushBc (s : State) : Res := runOp (pushOp .bc 16) s

/-- POP DE (R146). -/
def execPopDe (s : State) : Res := runOp (popOp .de 12) s

/-- PUSH DE (R145). -/
def execPushDe (s : State) : Res := runOp (pushOp .de 16) s

/-- POP HL (R146). -/
def execPopHl (s : State) : Res := runOp (popOp .hl 12) s

/-- PUSH HL (R145). -/
def execPushHl (s : State) : Res := runOp (pushOp .hl 16) s

/-- POP AF (R147). -/
def execPopAf (s : State) : Res := runOp (popOp .af 12) s

/-- PUSH AF (R145). -/
def execPushAf (s : State) : Res := runOp (pushOp .af 16) s

/-- LD HL,SP+e8 (R148). -/
def execLdHlSpE8 (e : Byte) (s : State) : Res := runOp (ldHlSpOp e 12) s

/-- LD SP,HL (R144). -/
def execLdSpHl (s : State) : Res := runOp (ldSpHlOp 8) s

end Sys2Proof.Machine
end

