-- ==== Sys2Proof/Machine/Load8.lean ====
section
/-! DEFINITION. The 8-bit loads (41_load8.md R120 to R138): three shared operations, then one meaning per instruction. -/

namespace Sys2Proof.Machine

/-- `r8[y] <- r8[z]` (41_load8.md R120, R122, R123). -/
def ldOp (dst src : Opnd8) (n : Nat) : Op Nat := do
  writeOpnd dst (readOpnd src)
  return n

/-- `r8[y] <- d8` (41_load8.md R121, R124). -/
def ldImmOp (dst : Opnd8) (v : Byte) (n : Nat) : Op Nat := do
  writeOpnd dst (return v)
  return n

/-- A load of A: the access, the write of A, then the move of HL (41_load8.md R125, R126, R129, R131, R133, R135, R136). -/
def loadAOp (m : MemOpnd) (n : Nat) : Op Nat := do
  let a ← addrOf m
  let v ← memRead8 a
  writeReg .a v
  Op.update fun s => s.afterAccess m a
  return n

/-- A store of A: the access, then the move of HL (41_load8.md R127, R128, R130, R132, R134, R137, R138). -/
def storeAOp (m : MemOpnd) (n : Nat) : Op Nat := do
  let a ← addrOf m
  let v ← readReg .a
  memWrite8 a v
  Op.update fun s => s.afterAccess m a
  return n

/-- LD (BC),A (R127). -/
def execLdIndBcA (s : State) : Res := runOp (storeAOp .indBc 8) s

/-- LD B,d8 (R121). -/
def execLdBD8 (n : Byte) (s : State) : Res := runOp (ldImmOp (.reg .b) n 8) s

/-- LD A,(BC) (R125). -/
def execLdAIndBc (s : State) : Res := runOp (loadAOp .indBc 8) s

/-- LD C,d8 (R121). -/
def execLdCD8 (n : Byte) (s : State) : Res := runOp (ldImmOp (.reg .c) n 8) s

/-- LD (DE),A (R128). -/
def execLdIndDeA (s : State) : Res := runOp (storeAOp .indDe 8) s

/-- LD D,d8 (R121). -/
def execLdDD8 (n : Byte) (s : State) : Res := runOp (ldImmOp (.reg .d) n 8) s

/-- LD A,(DE) (R126). -/
def execLdAIndDe (s : State) : Res := runOp (loadAOp .indDe 8) s

/-- LD E,d8 (R121). -/
def execLdED8 (n : Byte) (s : State) : Res := runOp (ldImmOp (.reg .e) n 8) s

/-- LD (HL+),A (R137). -/
def execLdIndHlIncA (s : State) : Res := runOp (storeAOp .indHlInc 8) s

/-- LD H,d8 (R121). -/
def execLdHD8 (n : Byte) (s : State) : Res := runOp (ldImmOp (.reg .h) n 8) s

/-- LD A,(HL+) (R135). -/
def execLdAIndHlInc (s : State) : Res := runOp (loadAOp .indHlInc 8) s

/-- LD L,d8 (R121). -/
def execLdLD8 (n : Byte) (s : State) : Res := runOp (ldImmOp (.reg .l) n 8) s

/-- LD (HL-),A (R138). -/
def execLdIndHlDecA (s : State) : Res := runOp (storeAOp .indHlDec 8) s

/-- LD (HL),d8 (R124). -/
def execLdIndHlD8 (n : Byte) (s : State) : Res := runOp (ldImmOp .indHl n 12) s

/-- LD A,(HL-) (R136). -/
def execLdAIndHlDec (s : State) : Res := runOp (loadAOp .indHlDec 8) s

/-- LD A,d8 (R121). -/
def execLdAD8 (n : Byte) (s : State) : Res := runOp (ldImmOp (.reg .a) n 8) s

/-- LD B,B (R120). -/
def execLdBB (s : State) : Res := runOp (ldOp (.reg .b) (.reg .b) 4) s

/-- LD B,C (R120). -/
def execLdBC (s : State) : Res := runOp (ldOp (.reg .b) (.reg .c) 4) s

/-- LD B,D (R120). -/
def execLdBD (s : State) : Res := runOp (ldOp (.reg .b) (.reg .d) 4) s

/-- LD B,E (R120). -/
def execLdBE (s : State) : Res := runOp (ldOp (.reg .b) (.reg .e) 4) s

/-- LD B,H (R120). -/
def execLdBH (s : State) : Res := runOp (ldOp (.reg .b) (.reg .h) 4) s

/-- LD B,L (R120). -/
def execLdBL (s : State) : Res := runOp (ldOp (.reg .b) (.reg .l) 4) s

/-- LD B,(HL) (R122). -/
def execLdBIndHl (s : State) : Res := runOp (ldOp (.reg .b) .indHl 8) s

/-- LD B,A (R120). -/
def execLdBA (s : State) : Res := runOp (ldOp (.reg .b) (.reg .a) 4) s

/-- LD C,B (R120). -/
def execLdCB (s : State) : Res := runOp (ldOp (.reg .c) (.reg .b) 4) s

/-- LD C,C (R120). -/
def execLdCC (s : State) : Res := runOp (ldOp (.reg .c) (.reg .c) 4) s

/-- LD C,D (R120). -/
def execLdCD (s : State) : Res := runOp (ldOp (.reg .c) (.reg .d) 4) s

/-- LD C,E (R120). -/
def execLdCE (s : State) : Res := runOp (ldOp (.reg .c) (.reg .e) 4) s

/-- LD C,H (R120). -/
def execLdCH (s : State) : Res := runOp (ldOp (.reg .c) (.reg .h) 4) s

/-- LD C,L (R120). -/
def execLdCL (s : State) : Res := runOp (ldOp (.reg .c) (.reg .l) 4) s

/-- LD C,(HL) (R122). -/
def execLdCIndHl (s : State) : Res := runOp (ldOp (.reg .c) .indHl 8) s

/-- LD C,A (R120). -/
def execLdCA (s : State) : Res := runOp (ldOp (.reg .c) (.reg .a) 4) s

/-- LD D,B (R120). -/
def execLdDB (s : State) : Res := runOp (ldOp (.reg .d) (.reg .b) 4) s

/-- LD D,C (R120). -/
def execLdDC (s : State) : Res := runOp (ldOp (.reg .d) (.reg .c) 4) s

/-- LD D,D (R120). -/
def execLdDD (s : State) : Res := runOp (ldOp (.reg .d) (.reg .d) 4) s

/-- LD D,E (R120). -/
def execLdDE (s : State) : Res := runOp (ldOp (.reg .d) (.reg .e) 4) s

/-- LD D,H (R120). -/
def execLdDH (s : State) : Res := runOp (ldOp (.reg .d) (.reg .h) 4) s

/-- LD D,L (R120). -/
def execLdDL (s : State) : Res := runOp (ldOp (.reg .d) (.reg .l) 4) s

/-- LD D,(HL) (R122). -/
def execLdDIndHl (s : State) : Res := runOp (ldOp (.reg .d) .indHl 8) s

/-- LD D,A (R120). -/
def execLdDA (s : State) : Res := runOp (ldOp (.reg .d) (.reg .a) 4) s

/-- LD E,B (R120). -/
def execLdEB (s : State) : Res := runOp (ldOp (.reg .e) (.reg .b) 4) s

/-- LD E,C (R120). -/
def execLdEC (s : State) : Res := runOp (ldOp (.reg .e) (.reg .c) 4) s

/-- LD E,D (R120). -/
def execLdED (s : State) : Res := runOp (ldOp (.reg .e) (.reg .d) 4) s

/-- LD E,E (R120). -/
def execLdEE (s : State) : Res := runOp (ldOp (.reg .e) (.reg .e) 4) s

/-- LD E,H (R120). -/
def execLdEH (s : State) : Res := runOp (ldOp (.reg .e) (.reg .h) 4) s

/-- LD E,L (R120). -/
def execLdEL (s : State) : Res := runOp (ldOp (.reg .e) (.reg .l) 4) s

/-- LD E,(HL) (R122). -/
def execLdEIndHl (s : State) : Res := runOp (ldOp (.reg .e) .indHl 8) s

/-- LD E,A (R120). -/
def execLdEA (s : State) : Res := runOp (ldOp (.reg .e) (.reg .a) 4) s

/-- LD H,B (R120). -/
def execLdHB (s : State) : Res := runOp (ldOp (.reg .h) (.reg .b) 4) s

/-- LD H,C (R120). -/
def execLdHC (s : State) : Res := runOp (ldOp (.reg .h) (.reg .c) 4) s

/-- LD H,D (R120). -/
def execLdHD (s : State) : Res := runOp (ldOp (.reg .h) (.reg .d) 4) s

/-- LD H,E (R120). -/
def execLdHE (s : State) : Res := runOp (ldOp (.reg .h) (.reg .e) 4) s

/-- LD H,H (R120). -/
def execLdHH (s : State) : Res := runOp (ldOp (.reg .h) (.reg .h) 4) s

/-- LD H,L (R120). -/
def execLdHL (s : State) : Res := runOp (ldOp (.reg .h) (.reg .l) 4) s

/-- LD H,(HL) (R122). -/
def execLdHIndHl (s : State) : Res := runOp (ldOp (.reg .h) .indHl 8) s

/-- LD H,A (R120). -/
def execLdHA (s : State) : Res := runOp (ldOp (.reg .h) (.reg .a) 4) s

/-- LD L,B (R120). -/
def execLdLB (s : State) : Res := runOp (ldOp (.reg .l) (.reg .b) 4) s

/-- LD L,C (R120). -/
def execLdLC (s : State) : Res := runOp (ldOp (.reg .l) (.reg .c) 4) s

/-- LD L,D (R120). -/
def execLdLD (s : State) : Res := runOp (ldOp (.reg .l) (.reg .d) 4) s

/-- LD L,E (R120). -/
def execLdLE (s : State) : Res := runOp (ldOp (.reg .l) (.reg .e) 4) s

/-- LD L,H (R120). -/
def execLdLH (s : State) : Res := runOp (ldOp (.reg .l) (.reg .h) 4) s

/-- LD L,L (R120). -/
def execLdLL (s : State) : Res := runOp (ldOp (.reg .l) (.reg .l) 4) s

/-- LD L,(HL) (R122). -/
def execLdLIndHl (s : State) : Res := runOp (ldOp (.reg .l) .indHl 8) s

/-- LD L,A (R120). -/
def execLdLA (s : State) : Res := runOp (ldOp (.reg .l) (.reg .a) 4) s

/-- LD (HL),B (R123). -/
def execLdIndHlB (s : State) : Res := runOp (ldOp .indHl (.reg .b) 8) s

/-- LD (HL),C (R123). -/
def execLdIndHlC (s : State) : Res := runOp (ldOp .indHl (.reg .c) 8) s

/-- LD (HL),D (R123). -/
def execLdIndHlD (s : State) : Res := runOp (ldOp .indHl (.reg .d) 8) s

/-- LD (HL),E (R123). -/
def execLdIndHlE (s : State) : Res := runOp (ldOp .indHl (.reg .e) 8) s

/-- LD (HL),H (R123). -/
def execLdIndHlH (s : State) : Res := runOp (ldOp .indHl (.reg .h) 8) s

/-- LD (HL),L (R123). -/
def execLdIndHlL (s : State) : Res := runOp (ldOp .indHl (.reg .l) 8) s

/-- LD (HL),A (R123). -/
def execLdIndHlA (s : State) : Res := runOp (ldOp .indHl (.reg .a) 8) s

/-- LD A,B (R120). -/
def execLdAB (s : State) : Res := runOp (ldOp (.reg .a) (.reg .b) 4) s

/-- LD A,C (R120). -/
def execLdAC (s : State) : Res := runOp (ldOp (.reg .a) (.reg .c) 4) s

/-- LD A,D (R120). -/
def execLdAD (s : State) : Res := runOp (ldOp (.reg .a) (.reg .d) 4) s

/-- LD A,E (R120). -/
def execLdAE (s : State) : Res := runOp (ldOp (.reg .a) (.reg .e) 4) s

/-- LD A,H (R120). -/
def execLdAH (s : State) : Res := runOp (ldOp (.reg .a) (.reg .h) 4) s

/-- LD A,L (R120). -/
def execLdAL (s : State) : Res := runOp (ldOp (.reg .a) (.reg .l) 4) s

/-- LD A,(HL) (R122). -/
def execLdAIndHl (s : State) : Res := runOp (ldOp (.reg .a) .indHl 8) s

/-- LD A,A (R120). -/
def execLdAA (s : State) : Res := runOp (ldOp (.reg .a) (.reg .a) 4) s

/-- LDH (a8),A (R134). -/
def execLdhIndA8A (n : Byte) (s : State) : Res := runOp (storeAOp (.high n) 12) s

/-- LDH (C),A (R132). -/
def execLdhIndCA (s : State) : Res := runOp (storeAOp .highC 8) s

/-- LD (a16),A (R130). -/
def execLdIndA16A (a : Word) (s : State) : Res := runOp (storeAOp (.abs a) 16) s

/-- LDH A,(a8) (R133). -/
def execLdhAIndA8 (n : Byte) (s : State) : Res := runOp (loadAOp (.high n) 12) s

/-- LDH A,(C) (R131). -/
def execLdhAIndC (s : State) : Res := runOp (loadAOp .highC 8) s

/-- LD A,(a16) (R129). -/
def execLdAIndA16 (a : Word) (s : State) : Res := runOp (loadAOp (.abs a) 16) s

end Sys2Proof.Machine
end

