-- ==== Sys2Proof/Machine/RotBit.lean ====
section
/-! DEFINITION. The rotates, shifts and bit operations (45_rotate_shift_bit.md R180 to R195). -/

namespace Sys2Proof.Machine

/-- The one-byte rotates of A, which always clear Z (45_rotate_shift_bit.md R180 to R183). -/
def rotAOp (op : RotOp) (n : Nat) : Op Nat := do
  let cin ← readCarryIf (rotUsesCarry op)
  let a ← readReg .a
  let r := rotate8 op a cin
  writeReg .a r.1
  setFlags (some false) (some false) (some false) (some r.2)
  return n

/-- `rot[y] r8[z]` (45_rotate_shift_bit.md R184 to R192). -/
def rotOp (op : RotOp) (o : Opnd8) (n : Nat) : Op Nat := do
  let cin ← readCarryIf (rotUsesCarry op)
  let v ← modifyOpnd o fun v => (rotate8 op v cin).1
  let r := rotate8 op v cin
  setFlags (some (decide (r.1 = 0#8))) (some false) (some false) (some r.2)
  return n

/-- `BIT b,r8[z]`: no write, C kept (45_rotate_shift_bit.md R193). -/
def bitOp (b : Nat) (o : Opnd8) (n : Nat) : Op Nat := do
  let v ← readOpnd o
  setFlags (some (!v.getLsbD b)) (some false) (some true) none
  return n

/-- `RES b,r8[z]`, no flag (45_rotate_shift_bit.md R194). -/
def resOp (b : Nat) (o : Opnd8) (n : Nat) : Op Nat := do
  let _ ← modifyOpnd o (clearBit8 b)
  return n

/-- `SET b,r8[z]`, no flag (45_rotate_shift_bit.md R195). -/
def setOp (b : Nat) (o : Opnd8) (n : Nat) : Op Nat := do
  let _ ← modifyOpnd o (setBit8 b)
  return n

/-- RLCA (R180). -/
def execRlca (s : State) : Res := runOp (rotAOp .rlc 4) s

/-- RRCA (R181). -/
def execRrca (s : State) : Res := runOp (rotAOp .rrc 4) s

/-- RLA (R182). -/
def execRla (s : State) : Res := runOp (rotAOp .rl 4) s

/-- RRA (R183). -/
def execRra (s : State) : Res := runOp (rotAOp .rr 4) s

/-- RLC B (R185). -/
def execRlcB (s : State) : Res := runOp (rotOp .rlc (.reg .b) 8) s

/-- RLC C (R185). -/
def execRlcC (s : State) : Res := runOp (rotOp .rlc (.reg .c) 8) s

/-- RLC D (R185). -/
def execRlcD (s : State) : Res := runOp (rotOp .rlc (.reg .d) 8) s

/-- RLC E (R185). -/
def execRlcE (s : State) : Res := runOp (rotOp .rlc (.reg .e) 8) s

/-- RLC H (R185). -/
def execRlcH (s : State) : Res := runOp (rotOp .rlc (.reg .h) 8) s

/-- RLC L (R185). -/
def execRlcL (s : State) : Res := runOp (rotOp .rlc (.reg .l) 8) s

/-- RLC (HL) (R185). -/
def execRlcIndHl (s : State) : Res := runOp (rotOp .rlc .indHl 16) s

/-- RLC A (R185). -/
def execRlcA (s : State) : Res := runOp (rotOp .rlc (.reg .a) 8) s

/-- RRC B (R186). -/
def execRrcB (s : State) : Res := runOp (rotOp .rrc (.reg .b) 8) s

/-- RRC C (R186). -/
def execRrcC (s : State) : Res := runOp (rotOp .rrc (.reg .c) 8) s

/-- RRC D (R186). -/
def execRrcD (s : State) : Res := runOp (rotOp .rrc (.reg .d) 8) s

/-- RRC E (R186). -/
def execRrcE (s : State) : Res := runOp (rotOp .rrc (.reg .e) 8) s

/-- RRC H (R186). -/
def execRrcH (s : State) : Res := runOp (rotOp .rrc (.reg .h) 8) s

/-- RRC L (R186). -/
def execRrcL (s : State) : Res := runOp (rotOp .rrc (.reg .l) 8) s

/-- RRC (HL) (R186). -/
def execRrcIndHl (s : State) : Res := runOp (rotOp .rrc .indHl 16) s

/-- RRC A (R186). -/
def execRrcA (s : State) : Res := runOp (rotOp .rrc (.reg .a) 8) s

/-- RL B (R187). -/
def execRlB (s : State) : Res := runOp (rotOp .rl (.reg .b) 8) s

/-- RL C (R187). -/
def execRlC (s : State) : Res := runOp (rotOp .rl (.reg .c) 8) s

/-- RL D (R187). -/
def execRlD (s : State) : Res := runOp (rotOp .rl (.reg .d) 8) s

/-- RL E (R187). -/
def execRlE (s : State) : Res := runOp (rotOp .rl (.reg .e) 8) s

/-- RL H (R187). -/
def execRlH (s : State) : Res := runOp (rotOp .rl (.reg .h) 8) s

/-- RL L (R187). -/
def execRlL (s : State) : Res := runOp (rotOp .rl (.reg .l) 8) s

/-- RL (HL) (R187). -/
def execRlIndHl (s : State) : Res := runOp (rotOp .rl .indHl 16) s

/-- RL A (R187). -/
def execRlA (s : State) : Res := runOp (rotOp .rl (.reg .a) 8) s

/-- RR B (R188). -/
def execRrB (s : State) : Res := runOp (rotOp .rr (.reg .b) 8) s

/-- RR C (R188). -/
def execRrC (s : State) : Res := runOp (rotOp .rr (.reg .c) 8) s

/-- RR D (R188). -/
def execRrD (s : State) : Res := runOp (rotOp .rr (.reg .d) 8) s

/-- RR E (R188). -/
def execRrE (s : State) : Res := runOp (rotOp .rr (.reg .e) 8) s

/-- RR H (R188). -/
def execRrH (s : State) : Res := runOp (rotOp .rr (.reg .h) 8) s

/-- RR L (R188). -/
def execRrL (s : State) : Res := runOp (rotOp .rr (.reg .l) 8) s

/-- RR (HL) (R188). -/
def execRrIndHl (s : State) : Res := runOp (rotOp .rr .indHl 16) s

/-- RR A (R188). -/
def execRrA (s : State) : Res := runOp (rotOp .rr (.reg .a) 8) s

/-- SLA B (R189). -/
def execSlaB (s : State) : Res := runOp (rotOp .sla (.reg .b) 8) s

/-- SLA C (R189). -/
def execSlaC (s : State) : Res := runOp (rotOp .sla (.reg .c) 8) s

/-- SLA D (R189). -/
def execSlaD (s : State) : Res := runOp (rotOp .sla (.reg .d) 8) s

/-- SLA E (R189). -/
def execSlaE (s : State) : Res := runOp (rotOp .sla (.reg .e) 8) s

/-- SLA H (R189). -/
def execSlaH (s : State) : Res := runOp (rotOp .sla (.reg .h) 8) s

/-- SLA L (R189). -/
def execSlaL (s : State) : Res := runOp (rotOp .sla (.reg .l) 8) s

/-- SLA (HL) (R189). -/
def execSlaIndHl (s : State) : Res := runOp (rotOp .sla .indHl 16) s

/-- SLA A (R189). -/
def execSlaA (s : State) : Res := runOp (rotOp .sla (.reg .a) 8) s

/-- SRA B (R190). -/
def execSraB (s : State) : Res := runOp (rotOp .sra (.reg .b) 8) s

/-- SRA C (R190). -/
def execSraC (s : State) : Res := runOp (rotOp .sra (.reg .c) 8) s

/-- SRA D (R190). -/
def execSraD (s : State) : Res := runOp (rotOp .sra (.reg .d) 8) s

/-- SRA E (R190). -/
def execSraE (s : State) : Res := runOp (rotOp .sra (.reg .e) 8) s

/-- SRA H (R190). -/
def execSraH (s : State) : Res := runOp (rotOp .sra (.reg .h) 8) s

/-- SRA L (R190). -/
def execSraL (s : State) : Res := runOp (rotOp .sra (.reg .l) 8) s

/-- SRA (HL) (R190). -/
def execSraIndHl (s : State) : Res := runOp (rotOp .sra .indHl 16) s

/-- SRA A (R190). -/
def execSraA (s : State) : Res := runOp (rotOp .sra (.reg .a) 8) s

/-- SWAP B (R191). -/
def execSwapB (s : State) : Res := runOp (rotOp .swap (.reg .b) 8) s

/-- SWAP C (R191). -/
def execSwapC (s : State) : Res := runOp (rotOp .swap (.reg .c) 8) s

/-- SWAP D (R191). -/
def execSwapD (s : State) : Res := runOp (rotOp .swap (.reg .d) 8) s

/-- SWAP E (R191). -/
def execSwapE (s : State) : Res := runOp (rotOp .swap (.reg .e) 8) s

/-- SWAP H (R191). -/
def execSwapH (s : State) : Res := runOp (rotOp .swap (.reg .h) 8) s

/-- SWAP L (R191). -/
def execSwapL (s : State) : Res := runOp (rotOp .swap (.reg .l) 8) s

/-- SWAP (HL) (R191). -/
def execSwapIndHl (s : State) : Res := runOp (rotOp .swap .indHl 16) s

/-- SWAP A (R191). -/
def execSwapA (s : State) : Res := runOp (rotOp .swap (.reg .a) 8) s

/-- SRL B (R192). -/
def execSrlB (s : State) : Res := runOp (rotOp .srl (.reg .b) 8) s

/-- SRL C (R192). -/
def execSrlC (s : State) : Res := runOp (rotOp .srl (.reg .c) 8) s

/-- SRL D (R192). -/
def execSrlD (s : State) : Res := runOp (rotOp .srl (.reg .d) 8) s

/-- SRL E (R192). -/
def execSrlE (s : State) : Res := runOp (rotOp .srl (.reg .e) 8) s

/-- SRL H (R192). -/
def execSrlH (s : State) : Res := runOp (rotOp .srl (.reg .h) 8) s

/-- SRL L (R192). -/
def execSrlL (s : State) : Res := runOp (rotOp .srl (.reg .l) 8) s

/-- SRL (HL) (R192). -/
def execSrlIndHl (s : State) : Res := runOp (rotOp .srl .indHl 16) s

/-- SRL A (R192). -/
def execSrlA (s : State) : Res := runOp (rotOp .srl (.reg .a) 8) s

/-- BIT 0,B (R193). -/
def execBit0B (s : State) : Res := runOp (bitOp 0 (.reg .b) 8) s

/-- BIT 0,C (R193). -/
def execBit0C (s : State) : Res := runOp (bitOp 0 (.reg .c) 8) s

/-- BIT 0,D (R193). -/
def execBit0D (s : State) : Res := runOp (bitOp 0 (.reg .d) 8) s

/-- BIT 0,E (R193). -/
def execBit0E (s : State) : Res := runOp (bitOp 0 (.reg .e) 8) s

/-- BIT 0,H (R193). -/
def execBit0H (s : State) : Res := runOp (bitOp 0 (.reg .h) 8) s

/-- BIT 0,L (R193). -/
def execBit0L (s : State) : Res := runOp (bitOp 0 (.reg .l) 8) s

/-- BIT 0,(HL) (R193). -/
def execBit0IndHl (s : State) : Res := runOp (bitOp 0 .indHl 12) s

/-- BIT 0,A (R193). -/
def execBit0A (s : State) : Res := runOp (bitOp 0 (.reg .a) 8) s

/-- BIT 1,B (R193). -/
def execBit1B (s : State) : Res := runOp (bitOp 1 (.reg .b) 8) s

/-- BIT 1,C (R193). -/
def execBit1C (s : State) : Res := runOp (bitOp 1 (.reg .c) 8) s

/-- BIT 1,D (R193). -/
def execBit1D (s : State) : Res := runOp (bitOp 1 (.reg .d) 8) s

/-- BIT 1,E (R193). -/
def execBit1E (s : State) : Res := runOp (bitOp 1 (.reg .e) 8) s

/-- BIT 1,H (R193). -/
def execBit1H (s : State) : Res := runOp (bitOp 1 (.reg .h) 8) s

/-- BIT 1,L (R193). -/
def execBit1L (s : State) : Res := runOp (bitOp 1 (.reg .l) 8) s

/-- BIT 1,(HL) (R193). -/
def execBit1IndHl (s : State) : Res := runOp (bitOp 1 .indHl 12) s

/-- BIT 1,A (R193). -/
def execBit1A (s : State) : Res := runOp (bitOp 1 (.reg .a) 8) s

/-- BIT 2,B (R193). -/
def execBit2B (s : State) : Res := runOp (bitOp 2 (.reg .b) 8) s

/-- BIT 2,C (R193). -/
def execBit2C (s : State) : Res := runOp (bitOp 2 (.reg .c) 8) s

/-- BIT 2,D (R193). -/
def execBit2D (s : State) : Res := runOp (bitOp 2 (.reg .d) 8) s

/-- BIT 2,E (R193). -/
def execBit2E (s : State) : Res := runOp (bitOp 2 (.reg .e) 8) s

/-- BIT 2,H (R193). -/
def execBit2H (s : State) : Res := runOp (bitOp 2 (.reg .h) 8) s

/-- BIT 2,L (R193). -/
def execBit2L (s : State) : Res := runOp (bitOp 2 (.reg .l) 8) s

/-- BIT 2,(HL) (R193). -/
def execBit2IndHl (s : State) : Res := runOp (bitOp 2 .indHl 12) s

/-- BIT 2,A (R193). -/
def execBit2A (s : State) : Res := runOp (bitOp 2 (.reg .a) 8) s

/-- BIT 3,B (R193). -/
def execBit3B (s : State) : Res := runOp (bitOp 3 (.reg .b) 8) s

/-- BIT 3,C (R193). -/
def execBit3C (s : State) : Res := runOp (bitOp 3 (.reg .c) 8) s

/-- BIT 3,D (R193). -/
def execBit3D (s : State) : Res := runOp (bitOp 3 (.reg .d) 8) s

/-- BIT 3,E (R193). -/
def execBit3E (s : State) : Res := runOp (bitOp 3 (.reg .e) 8) s

/-- BIT 3,H (R193). -/
def execBit3H (s : State) : Res := runOp (bitOp 3 (.reg .h) 8) s

/-- BIT 3,L (R193). -/
def execBit3L (s : State) : Res := runOp (bitOp 3 (.reg .l) 8) s

/-- BIT 3,(HL) (R193). -/
def execBit3IndHl (s : State) : Res := runOp (bitOp 3 .indHl 12) s

/-- BIT 3,A (R193). -/
def execBit3A (s : State) : Res := runOp (bitOp 3 (.reg .a) 8) s

/-- BIT 4,B (R193). -/
def execBit4B (s : State) : Res := runOp (bitOp 4 (.reg .b) 8) s

/-- BIT 4,C (R193). -/
def execBit4C (s : State) : Res := runOp (bitOp 4 (.reg .c) 8) s

/-- BIT 4,D (R193). -/
def execBit4D (s : State) : Res := runOp (bitOp 4 (.reg .d) 8) s

/-- BIT 4,E (R193). -/
def execBit4E (s : State) : Res := runOp (bitOp 4 (.reg .e) 8) s

/-- BIT 4,H (R193). -/
def execBit4H (s : State) : Res := runOp (bitOp 4 (.reg .h) 8) s

/-- BIT 4,L (R193). -/
def execBit4L (s : State) : Res := runOp (bitOp 4 (.reg .l) 8) s

/-- BIT 4,(HL) (R193). -/
def execBit4IndHl (s : State) : Res := runOp (bitOp 4 .indHl 12) s

/-- BIT 4,A (R193). -/
def execBit4A (s : State) : Res := runOp (bitOp 4 (.reg .a) 8) s

/-- BIT 5,B (R193). -/
def execBit5B (s : State) : Res := runOp (bitOp 5 (.reg .b) 8) s

/-- BIT 5,C (R193). -/
def execBit5C (s : State) : Res := runOp (bitOp 5 (.reg .c) 8) s

/-- BIT 5,D (R193). -/
def execBit5D (s : State) : Res := runOp (bitOp 5 (.reg .d) 8) s

/-- BIT 5,E (R193). -/
def execBit5E (s : State) : Res := runOp (bitOp 5 (.reg .e) 8) s

/-- BIT 5,H (R193). -/
def execBit5H (s : State) : Res := runOp (bitOp 5 (.reg .h) 8) s

/-- BIT 5,L (R193). -/
def execBit5L (s : State) : Res := runOp (bitOp 5 (.reg .l) 8) s

/-- BIT 5,(HL) (R193). -/
def execBit5IndHl (s : State) : Res := runOp (bitOp 5 .indHl 12) s

/-- BIT 5,A (R193). -/
def execBit5A (s : State) : Res := runOp (bitOp 5 (.reg .a) 8) s

/-- BIT 6,B (R193). -/
def execBit6B (s : State) : Res := runOp (bitOp 6 (.reg .b) 8) s

/-- BIT 6,C (R193). -/
def execBit6C (s : State) : Res := runOp (bitOp 6 (.reg .c) 8) s

/-- BIT 6,D (R193). -/
def execBit6D (s : State) : Res := runOp (bitOp 6 (.reg .d) 8) s

/-- BIT 6,E (R193). -/
def execBit6E (s : State) : Res := runOp (bitOp 6 (.reg .e) 8) s

/-- BIT 6,H (R193). -/
def execBit6H (s : State) : Res := runOp (bitOp 6 (.reg .h) 8) s

/-- BIT 6,L (R193). -/
def execBit6L (s : State) : Res := runOp (bitOp 6 (.reg .l) 8) s

/-- BIT 6,(HL) (R193). -/
def execBit6IndHl (s : State) : Res := runOp (bitOp 6 .indHl 12) s

/-- BIT 6,A (R193). -/
def execBit6A (s : State) : Res := runOp (bitOp 6 (.reg .a) 8) s

/-- BIT 7,B (R193). -/
def execBit7B (s : State) : Res := runOp (bitOp 7 (.reg .b) 8) s

/-- BIT 7,C (R193). -/
def execBit7C (s : State) : Res := runOp (bitOp 7 (.reg .c) 8) s

/-- BIT 7,D (R193). -/
def execBit7D (s : State) : Res := runOp (bitOp 7 (.reg .d) 8) s

/-- BIT 7,E (R193). -/
def execBit7E (s : State) : Res := runOp (bitOp 7 (.reg .e) 8) s

/-- BIT 7,H (R193). -/
def execBit7H (s : State) : Res := runOp (bitOp 7 (.reg .h) 8) s

/-- BIT 7,L (R193). -/
def execBit7L (s : State) : Res := runOp (bitOp 7 (.reg .l) 8) s

/-- BIT 7,(HL) (R193). -/
def execBit7IndHl (s : State) : Res := runOp (bitOp 7 .indHl 12) s

/-- BIT 7,A (R193). -/
def execBit7A (s : State) : Res := runOp (bitOp 7 (.reg .a) 8) s

/-- RES 0,B (R194). -/
def execRes0B (s : State) : Res := runOp (resOp 0 (.reg .b) 8) s

/-- RES 0,C (R194). -/
def execRes0C (s : State) : Res := runOp (resOp 0 (.reg .c) 8) s

/-- RES 0,D (R194). -/
def execRes0D (s : State) : Res := runOp (resOp 0 (.reg .d) 8) s

/-- RES 0,E (R194). -/
def execRes0E (s : State) : Res := runOp (resOp 0 (.reg .e) 8) s

/-- RES 0,H (R194). -/
def execRes0H (s : State) : Res := runOp (resOp 0 (.reg .h) 8) s

/-- RES 0,L (R194). -/
def execRes0L (s : State) : Res := runOp (resOp 0 (.reg .l) 8) s

/-- RES 0,(HL) (R194). -/
def execRes0IndHl (s : State) : Res := runOp (resOp 0 .indHl 16) s

/-- RES 0,A (R194). -/
def execRes0A (s : State) : Res := runOp (resOp 0 (.reg .a) 8) s

/-- RES 1,B (R194). -/
def execRes1B (s : State) : Res := runOp (resOp 1 (.reg .b) 8) s

/-- RES 1,C (R194). -/
def execRes1C (s : State) : Res := runOp (resOp 1 (.reg .c) 8) s

/-- RES 1,D (R194). -/
def execRes1D (s : State) : Res := runOp (resOp 1 (.reg .d) 8) s

/-- RES 1,E (R194). -/
def execRes1E (s : State) : Res := runOp (resOp 1 (.reg .e) 8) s

/-- RES 1,H (R194). -/
def execRes1H (s : State) : Res := runOp (resOp 1 (.reg .h) 8) s

/-- RES 1,L (R194). -/
def execRes1L (s : State) : Res := runOp (resOp 1 (.reg .l) 8) s

/-- RES 1,(HL) (R194). -/
def execRes1IndHl (s : State) : Res := runOp (resOp 1 .indHl 16) s

/-- RES 1,A (R194). -/
def execRes1A (s : State) : Res := runOp (resOp 1 (.reg .a) 8) s

/-- RES 2,B (R194). -/
def execRes2B (s : State) : Res := runOp (resOp 2 (.reg .b) 8) s

/-- RES 2,C (R194). -/
def execRes2C (s : State) : Res := runOp (resOp 2 (.reg .c) 8) s

/-- RES 2,D (R194). -/
def execRes2D (s : State) : Res := runOp (resOp 2 (.reg .d) 8) s

/-- RES 2,E (R194). -/
def execRes2E (s : State) : Res := runOp (resOp 2 (.reg .e) 8) s

/-- RES 2,H (R194). -/
def execRes2H (s : State) : Res := runOp (resOp 2 (.reg .h) 8) s

/-- RES 2,L (R194). -/
def execRes2L (s : State) : Res := runOp (resOp 2 (.reg .l) 8) s

/-- RES 2,(HL) (R194). -/
def execRes2IndHl (s : State) : Res := runOp (resOp 2 .indHl 16) s

/-- RES 2,A (R194). -/
def execRes2A (s : State) : Res := runOp (resOp 2 (.reg .a) 8) s

/-- RES 3,B (R194). -/
def execRes3B (s : State) : Res := runOp (resOp 3 (.reg .b) 8) s

/-- RES 3,C (R194). -/
def execRes3C (s : State) : Res := runOp (resOp 3 (.reg .c) 8) s

/-- RES 3,D (R194). -/
def execRes3D (s : State) : Res := runOp (resOp 3 (.reg .d) 8) s

/-- RES 3,E (R194). -/
def execRes3E (s : State) : Res := runOp (resOp 3 (.reg .e) 8) s

/-- RES 3,H (R194). -/
def execRes3H (s : State) : Res := runOp (resOp 3 (.reg .h) 8) s

/-- RES 3,L (R194). -/
def execRes3L (s : State) : Res := runOp (resOp 3 (.reg .l) 8) s

/-- RES 3,(HL) (R194). -/
def execRes3IndHl (s : State) : Res := runOp (resOp 3 .indHl 16) s

/-- RES 3,A (R194). -/
def execRes3A (s : State) : Res := runOp (resOp 3 (.reg .a) 8) s

/-- RES 4,B (R194). -/
def execRes4B (s : State) : Res := runOp (resOp 4 (.reg .b) 8) s

/-- RES 4,C (R194). -/
def execRes4C (s : State) : Res := runOp (resOp 4 (.reg .c) 8) s

/-- RES 4,D (R194). -/
def execRes4D (s : State) : Res := runOp (resOp 4 (.reg .d) 8) s

/-- RES 4,E (R194). -/
def execRes4E (s : State) : Res := runOp (resOp 4 (.reg .e) 8) s

/-- RES 4,H (R194). -/
def execRes4H (s : State) : Res := runOp (resOp 4 (.reg .h) 8) s

/-- RES 4,L (R194). -/
def execRes4L (s : State) : Res := runOp (resOp 4 (.reg .l) 8) s

/-- RES 4,(HL) (R194). -/
def execRes4IndHl (s : State) : Res := runOp (resOp 4 .indHl 16) s

/-- RES 4,A (R194). -/
def execRes4A (s : State) : Res := runOp (resOp 4 (.reg .a) 8) s

/-- RES 5,B (R194). -/
def execRes5B (s : State) : Res := runOp (resOp 5 (.reg .b) 8) s

/-- RES 5,C (R194). -/
def execRes5C (s : State) : Res := runOp (resOp 5 (.reg .c) 8) s

/-- RES 5,D (R194). -/
def execRes5D (s : State) : Res := runOp (resOp 5 (.reg .d) 8) s

/-- RES 5,E (R194). -/
def execRes5E (s : State) : Res := runOp (resOp 5 (.reg .e) 8) s

/-- RES 5,H (R194). -/
def execRes5H (s : State) : Res := runOp (resOp 5 (.reg .h) 8) s

/-- RES 5,L (R194). -/
def execRes5L (s : State) : Res := runOp (resOp 5 (.reg .l) 8) s

/-- RES 5,(HL) (R194). -/
def execRes5IndHl (s : State) : Res := runOp (resOp 5 .indHl 16) s

/-- RES 5,A (R194). -/
def execRes5A (s : State) : Res := runOp (resOp 5 (.reg .a) 8) s

/-- RES 6,B (R194). -/
def execRes6B (s : State) : Res := runOp (resOp 6 (.reg .b) 8) s

/-- RES 6,C (R194). -/
def execRes6C (s : State) : Res := runOp (resOp 6 (.reg .c) 8) s

/-- RES 6,D (R194). -/
def execRes6D (s : State) : Res := runOp (resOp 6 (.reg .d) 8) s

/-- RES 6,E (R194). -/
def execRes6E (s : State) : Res := runOp (resOp 6 (.reg .e) 8) s

/-- RES 6,H (R194). -/
def execRes6H (s : State) : Res := runOp (resOp 6 (.reg .h) 8) s

/-- RES 6,L (R194). -/
def execRes6L (s : State) : Res := runOp (resOp 6 (.reg .l) 8) s

/-- RES 6,(HL) (R194). -/
def execRes6IndHl (s : State) : Res := runOp (resOp 6 .indHl 16) s

/-- RES 6,A (R194). -/
def execRes6A (s : State) : Res := runOp (resOp 6 (.reg .a) 8) s

/-- RES 7,B (R194). -/
def execRes7B (s : State) : Res := runOp (resOp 7 (.reg .b) 8) s

/-- RES 7,C (R194). -/
def execRes7C (s : State) : Res := runOp (resOp 7 (.reg .c) 8) s

/-- RES 7,D (R194). -/
def execRes7D (s : State) : Res := runOp (resOp 7 (.reg .d) 8) s

/-- RES 7,E (R194). -/
def execRes7E (s : State) : Res := runOp (resOp 7 (.reg .e) 8) s

/-- RES 7,H (R194). -/
def execRes7H (s : State) : Res := runOp (resOp 7 (.reg .h) 8) s

/-- RES 7,L (R194). -/
def execRes7L (s : State) : Res := runOp (resOp 7 (.reg .l) 8) s

/-- RES 7,(HL) (R194). -/
def execRes7IndHl (s : State) : Res := runOp (resOp 7 .indHl 16) s

/-- RES 7,A (R194). -/
def execRes7A (s : State) : Res := runOp (resOp 7 (.reg .a) 8) s

/-- SET 0,B (R195). -/
def execSet0B (s : State) : Res := runOp (setOp 0 (.reg .b) 8) s

/-- SET 0,C (R195). -/
def execSet0C (s : State) : Res := runOp (setOp 0 (.reg .c) 8) s

/-- SET 0,D (R195). -/
def execSet0D (s : State) : Res := runOp (setOp 0 (.reg .d) 8) s

/-- SET 0,E (R195). -/
def execSet0E (s : State) : Res := runOp (setOp 0 (.reg .e) 8) s

/-- SET 0,H (R195). -/
def execSet0H (s : State) : Res := runOp (setOp 0 (.reg .h) 8) s

/-- SET 0,L (R195). -/
def execSet0L (s : State) : Res := runOp (setOp 0 (.reg .l) 8) s

/-- SET 0,(HL) (R195). -/
def execSet0IndHl (s : State) : Res := runOp (setOp 0 .indHl 16) s

/-- SET 0,A (R195). -/
def execSet0A (s : State) : Res := runOp (setOp 0 (.reg .a) 8) s

/-- SET 1,B (R195). -/
def execSet1B (s : State) : Res := runOp (setOp 1 (.reg .b) 8) s

/-- SET 1,C (R195). -/
def execSet1C (s : State) : Res := runOp (setOp 1 (.reg .c) 8) s

/-- SET 1,D (R195). -/
def execSet1D (s : State) : Res := runOp (setOp 1 (.reg .d) 8) s

/-- SET 1,E (R195). -/
def execSet1E (s : State) : Res := runOp (setOp 1 (.reg .e) 8) s

/-- SET 1,H (R195). -/
def execSet1H (s : State) : Res := runOp (setOp 1 (.reg .h) 8) s

/-- SET 1,L (R195). -/
def execSet1L (s : State) : Res := runOp (setOp 1 (.reg .l) 8) s

/-- SET 1,(HL) (R195). -/
def execSet1IndHl (s : State) : Res := runOp (setOp 1 .indHl 16) s

/-- SET 1,A (R195). -/
def execSet1A (s : State) : Res := runOp (setOp 1 (.reg .a) 8) s

/-- SET 2,B (R195). -/
def execSet2B (s : State) : Res := runOp (setOp 2 (.reg .b) 8) s

/-- SET 2,C (R195). -/
def execSet2C (s : State) : Res := runOp (setOp 2 (.reg .c) 8) s

/-- SET 2,D (R195). -/
def execSet2D (s : State) : Res := runOp (setOp 2 (.reg .d) 8) s

/-- SET 2,E (R195). -/
def execSet2E (s : State) : Res := runOp (setOp 2 (.reg .e) 8) s

/-- SET 2,H (R195). -/
def execSet2H (s : State) : Res := runOp (setOp 2 (.reg .h) 8) s

/-- SET 2,L (R195). -/
def execSet2L (s : State) : Res := runOp (setOp 2 (.reg .l) 8) s

/-- SET 2,(HL) (R195). -/
def execSet2IndHl (s : State) : Res := runOp (setOp 2 .indHl 16) s

/-- SET 2,A (R195). -/
def execSet2A (s : State) : Res := runOp (setOp 2 (.reg .a) 8) s

/-- SET 3,B (R195). -/
def execSet3B (s : State) : Res := runOp (setOp 3 (.reg .b) 8) s

/-- SET 3,C (R195). -/
def execSet3C (s : State) : Res := runOp (setOp 3 (.reg .c) 8) s

/-- SET 3,D (R195). -/
def execSet3D (s : State) : Res := runOp (setOp 3 (.reg .d) 8) s

/-- SET 3,E (R195). -/
def execSet3E (s : State) : Res := runOp (setOp 3 (.reg .e) 8) s

/-- SET 3,H (R195). -/
def execSet3H (s : State) : Res := runOp (setOp 3 (.reg .h) 8) s

/-- SET 3,L (R195). -/
def execSet3L (s : State) : Res := runOp (setOp 3 (.reg .l) 8) s

/-- SET 3,(HL) (R195). -/
def execSet3IndHl (s : State) : Res := runOp (setOp 3 .indHl 16) s

/-- SET 3,A (R195). -/
def execSet3A (s : State) : Res := runOp (setOp 3 (.reg .a) 8) s

/-- SET 4,B (R195). -/
def execSet4B (s : State) : Res := runOp (setOp 4 (.reg .b) 8) s

/-- SET 4,C (R195). -/
def execSet4C (s : State) : Res := runOp (setOp 4 (.reg .c) 8) s

/-- SET 4,D (R195). -/
def execSet4D (s : State) : Res := runOp (setOp 4 (.reg .d) 8) s

/-- SET 4,E (R195). -/
def execSet4E (s : State) : Res := runOp (setOp 4 (.reg .e) 8) s

/-- SET 4,H (R195). -/
def execSet4H (s : State) : Res := runOp (setOp 4 (.reg .h) 8) s

/-- SET 4,L (R195). -/
def execSet4L (s : State) : Res := runOp (setOp 4 (.reg .l) 8) s

/-- SET 4,(HL) (R195). -/
def execSet4IndHl (s : State) : Res := runOp (setOp 4 .indHl 16) s

/-- SET 4,A (R195). -/
def execSet4A (s : State) : Res := runOp (setOp 4 (.reg .a) 8) s

/-- SET 5,B (R195). -/
def execSet5B (s : State) : Res := runOp (setOp 5 (.reg .b) 8) s

/-- SET 5,C (R195). -/
def execSet5C (s : State) : Res := runOp (setOp 5 (.reg .c) 8) s

/-- SET 5,D (R195). -/
def execSet5D (s : State) : Res := runOp (setOp 5 (.reg .d) 8) s

/-- SET 5,E (R195). -/
def execSet5E (s : State) : Res := runOp (setOp 5 (.reg .e) 8) s

/-- SET 5,H (R195). -/
def execSet5H (s : State) : Res := runOp (setOp 5 (.reg .h) 8) s

/-- SET 5,L (R195). -/
def execSet5L (s : State) : Res := runOp (setOp 5 (.reg .l) 8) s

/-- SET 5,(HL) (R195). -/
def execSet5IndHl (s : State) : Res := runOp (setOp 5 .indHl 16) s

/-- SET 5,A (R195). -/
def execSet5A (s : State) : Res := runOp (setOp 5 (.reg .a) 8) s

/-- SET 6,B (R195). -/
def execSet6B (s : State) : Res := runOp (setOp 6 (.reg .b) 8) s

/-- SET 6,C (R195). -/
def execSet6C (s : State) : Res := runOp (setOp 6 (.reg .c) 8) s

/-- SET 6,D (R195). -/
def execSet6D (s : State) : Res := runOp (setOp 6 (.reg .d) 8) s

/-- SET 6,E (R195). -/
def execSet6E (s : State) : Res := runOp (setOp 6 (.reg .e) 8) s

/-- SET 6,H (R195). -/
def execSet6H (s : State) : Res := runOp (setOp 6 (.reg .h) 8) s

/-- SET 6,L (R195). -/
def execSet6L (s : State) : Res := runOp (setOp 6 (.reg .l) 8) s

/-- SET 6,(HL) (R195). -/
def execSet6IndHl (s : State) : Res := runOp (setOp 6 .indHl 16) s

/-- SET 6,A (R195). -/
def execSet6A (s : State) : Res := runOp (setOp 6 (.reg .a) 8) s

/-- SET 7,B (R195). -/
def execSet7B (s : State) : Res := runOp (setOp 7 (.reg .b) 8) s

/-- SET 7,C (R195). -/
def execSet7C (s : State) : Res := runOp (setOp 7 (.reg .c) 8) s

/-- SET 7,D (R195). -/
def execSet7D (s : State) : Res := runOp (setOp 7 (.reg .d) 8) s

/-- SET 7,E (R195). -/
def execSet7E (s : State) : Res := runOp (setOp 7 (.reg .e) 8) s

/-- SET 7,H (R195). -/
def execSet7H (s : State) : Res := runOp (setOp 7 (.reg .h) 8) s

/-- SET 7,L (R195). -/
def execSet7L (s : State) : Res := runOp (setOp 7 (.reg .l) 8) s

/-- SET 7,(HL) (R195). -/
def execSet7IndHl (s : State) : Res := runOp (setOp 7 .indHl 16) s

/-- SET 7,A (R195). -/
def execSet7A (s : State) : Res := runOp (setOp 7 (.reg .a) 8) s

end Sys2Proof.Machine
end

