-- ==== Sys2Proof/Machine/System.lean ====
section
/-! DEFINITION. The system instructions (47_system.md R220 to R224), the illegal opcodes (30_encoding.md R97) and the CB byte
(30_encoding.md R96). -/

namespace Sys2Proof.Machine

/-- NOP (47_system.md R220). -/
def nopOp (n : Nat) : Op Nat := return n

/-- HALT (47_system.md R221): with ime clear and a source requested, the halt quirk; otherwise the core halts. -/
def haltOp (n : Nat) : Op Nat := do
  let s ← Op.state
  if s.ime then do
    Op.update fun t => { t with halted := true }
    return n
  else do
    let p ← readPending
    if p = 0#5 then do
      Op.update fun t => { t with halted := true }
      return n
    else
      match s.haltBugPolicy with
      | .fault => raiseHaltBugFault
      | .reproduce => do
        Op.update fun t => { t with haltBug := true }
        return n

/-- STOP, its second byte fetched and ignored (47_system.md R222, 30_encoding.md R99). -/
def stopOp (n : Nat) : Op Nat := do
  let s ← Op.state
  match s.stopPolicy with
  | .fault => raiseStopFault
  | .waitJoypad => do
    Op.update fun t => { t with stopped := true }
    return n

/-- DI (47_system.md R223). -/
def diOp (n : Nat) : Op Nat := do
  Op.update fun s => { s with ime := false, eiPending := false }
  return n

/-- EI (47_system.md R224): the enable waits for the next instruction (60_exceptions.md R244). -/
def eiOp (n : Nat) : Op Nat := do
  Op.update fun s => { s with eiPending := true }
  return n

/-- An illegal base opcode (30_encoding.md R97). -/
def illegalOpcode (opcode : Byte) : Op Nat := raiseDecodeFault opcode

/-- The value of a three-bit field: the bit number of BIT, RES and SET (30_encoding.md R89). -/
def bitNumber : Field3 → Nat
  | .v0 => 0
  | .v1 => 1
  | .v2 => 2
  | .v3 => 3
  | .v4 => 4
  | .v5 => 5
  | .v6 => 6
  | .v7 => 7

/-- The cycles of a CB instruction on an operand: `onReg` or `onMem` (45_rotate_shift_bit.md R184). -/
def cbCycles (o : Opnd8) (onReg onMem : Nat) : Nat :=
  match o with
  | .reg _ => onReg
  | .indHl => onMem

/-- The CB byte followed by `op2`: the entry of the second table that `op2` selects, by its fields (30_encoding.md R89, R96,
R113; log entry 14). -/
def prefixCbOp (op2 : Byte) : Op Nat :=
  let y := field3 op2 3
  let o := opnd8 (field3 op2 0)
  match field2 op2 6 with
  | .v0 => rotOp (rotOfField y) o (cbCycles o 8 16)
  | .v1 => bitOp (bitNumber y) o (cbCycles o 8 12)
  | .v2 => resOp (bitNumber y) o (cbCycles o 8 16)
  | .v3 => setOp (bitNumber y) o (cbCycles o 8 16)

/-- NOP (R220). -/
def execNop (s : State) : Res := runOp (nopOp 4) s

/-- STOP (R222). -/
def execStop (_x : Byte) (s : State) : Res := runOp (stopOp 4) s

/-- HALT (R221). -/
def execHalt (s : State) : Res := runOp (haltOp 4) s

/-- PREFIX CB (R96). -/
def execPrefixCb (op2 : Byte) (s : State) : Res := runOp (prefixCbOp op2) s

/-- illegal opcode 0xD3 (R97). -/
def execIllegalD3 (s : State) : Res := runOp (illegalOpcode 0xD3#8) s

/-- illegal opcode 0xDB (R97). -/
def execIllegalDB (s : State) : Res := runOp (illegalOpcode 0xDB#8) s

/-- illegal opcode 0xDD (R97). -/
def execIllegalDD (s : State) : Res := runOp (illegalOpcode 0xDD#8) s

/-- illegal opcode 0xE3 (R97). -/
def execIllegalE3 (s : State) : Res := runOp (illegalOpcode 0xE3#8) s

/-- illegal opcode 0xE4 (R97). -/
def execIllegalE4 (s : State) : Res := runOp (illegalOpcode 0xE4#8) s

/-- illegal opcode 0xEB (R97). -/
def execIllegalEB (s : State) : Res := runOp (illegalOpcode 0xEB#8) s

/-- illegal opcode 0xEC (R97). -/
def execIllegalEC (s : State) : Res := runOp (illegalOpcode 0xEC#8) s

/-- illegal opcode 0xED (R97). -/
def execIllegalED (s : State) : Res := runOp (illegalOpcode 0xED#8) s

/-- DI (R223). -/
def execDi (s : State) : Res := runOp (diOp 4) s

/-- illegal opcode 0xF4 (R97). -/
def execIllegalF4 (s : State) : Res := runOp (illegalOpcode 0xF4#8) s

/-- EI (R224). -/
def execEi (s : State) : Res := runOp (eiOp 4) s

/-- illegal opcode 0xFC (R97). -/
def execIllegalFC (s : State) : Res := runOp (illegalOpcode 0xFC#8) s

/-- illegal opcode 0xFD (R97). -/
def execIllegalFD (s : State) : Res := runOp (illegalOpcode 0xFD#8) s

end Sys2Proof.Machine
end

