-- ==== Sys2Proof/Machine/Sequencer.lean ====
section
/-! DEFINITION. The step sequencer (60_exceptions.md R249, R251): the boundary checks, the fetch, the EI epilogue. It takes
the meanings as an argument; Machine/Step.lean gives it `exec`. -/

namespace Sys2Proof.Machine

/-- What the boundary checks choose: an idle step, an interrupt service, or one instruction (60_exceptions.md R249). -/
inductive Boundary where
  | idle | service | instruction
deriving DecidableEq, Repr

/-- The stop check: true when the core is not stopped, or wakes because `IF[4]` is set (60_exceptions.md R248). -/
def leaveStop : Op Bool := do
  let s ← Op.state
  if s.stopped then do
    let f ← readIf
    if f.getLsbD 4 then do
      Op.update fun t => { t with stopped := false }
      return true
    else
      return false
  else
    return true

/-- The halt check: true when the core is not halted, or wakes because a source is requested (60_exceptions.md R246). -/
def leaveHalt : Op Bool := do
  let s ← Op.state
  if s.halted then do
    let p ← readPending
    if p = 0#5 then
      return false
    else do
      Op.update fun t => { t with halted := false }
      return true
  else
    return true

/-- The interrupt check; IE and IF are read only with ime set (60_exceptions.md R249). -/
def wantsService : Op Bool := do
  let s ← Op.state
  if s.ime then do
    let p ← readPending
    return decide (p ≠ 0#5)
  else
    return false

/-- The checks of `StepBody` in their order (60_exceptions.md R249). -/
def boundary : Op Boundary := do
  let running ← leaveStop
  if running then do
    let awake ← leaveHalt
    if awake then do
      let serve ← wantsService
      return if serve then .service else .instruction
    else
      return .idle
  else
    return .idle

/-- `Decode` and the fetch of the immediates (30_encoding.md R96, R108): the opcode, the second opcode byte after 0xCB, or
the immediate bytes the descriptor's length asks for. An illegal opcode has length 1, so nothing follows its fetch. -/
def fetchInstr : Op Instr := do
  let op ← fetch8
  if op = 0xCB#8 then do
    let op2 ← fetch8
    return decodeCb op2
  else
    match baseLength op with
    | 1 => return decodeBase op 0#8 0#8
    | 2 => do
      let b1 ← fetch8
      return decodeBase op b1 0#8
    | _ => do
      let n ← fetch16
      return decodeBase op (loByte n) (hiByte n)

/-- The EI epilogue: `delay` is ei_pending as the instruction began (60_exceptions.md R244, R251). -/
def State.eiEpilogue (s : State) (delay : Bool) : State :=
  if delay && s.eiPending then { s with ime := true, eiPending := false } else s

/-- The EI epilogue on an outcome: a faulting instruction has none. -/
def eiEpilogue (delay : Bool) : Res → Res
  | .next t => .next (t.eiEpilogue delay)
  | .fault f => .fault f
  | .refused r => .refused r

/-- `ExecOne` (60_exceptions.md R251). -/
def execOne (run : Instr → State → Res) (s : State) : Res :=
  match fetchInstr s with
  | .ok i t => eiEpilogue s.eiPending (run i t)
  | .error f _ => .fault f

/-- The idle count of a stopped or halted step (60_exceptions.md R246, R248). -/
def idleCycles : Nat := 4

/-- `StepBody` after the checks (60_exceptions.md R249). -/
def stepBody (run : Instr → State → Res) (s : State) : Res :=
  match boundary s with
  | .ok .idle t => .next (t.tick idleCycles)
  | .ok .service t => runOp service t
  | .ok .instruction t => execOne run t
  | .error f _ => .fault f

/-- `step()`: a latched fault is returned again (60_exceptions.md R234); otherwise `pc_at_step_start <- PC` and the body
(R249). -/
def stepWith (run : Instr → State → Res) (s : State) : Res :=
  match s.fault with
  | some f => .fault f
  | none => stepBody run { s with stepPc := s.pc }

/-- A byte placed where a fetch at `a` reads it (20_memory.md R54): in IF, in IE, or on the bus. -/
def State.place (s : State) (a : Word) (v : Byte) : State :=
  if a = ifAddr then s.setIf v else if a = ieAddr then s.setIe v else s.setBus (s.bus.place a v)

/-- Bytes placed from an address on, wrapping at 0xFFFF (20_memory.md R58). -/
def State.placeBytes (s : State) (a : Word) : List Byte → State
  | [] => s
  | v :: rest => State.placeBytes (s.place a v) (inc16 a) rest

end Sys2Proof.Machine
end

