-- ==== Sys2Proof/Machine/Step.lean ====
section
/-! DEFINITION. The step of the machine and the placing of an instruction where the next step fetches. -/

namespace Sys2Proof.Machine

/-- `step()` of 60_exceptions.md R249: `Ok(n)` is `next` with the counter n higher, `Fault(f)` is `fault`. -/
def step (s : State) : Host.Outcome State Fault Refusal := stepWith exec s

/-- `s` with the instruction whose bits are `w` stored at PC, where the next step of a running machine fetches (log entries
12, 13). -/
def State.withFetchWord (s : State) (nbits w : Nat) : State := s.placeBytes s.pc (tableBytes nbits w)

end Sys2Proof.Machine
end

