-- ==== Sys2Proof/Machine/HostCalls.lean ====
section
/-! DEFINITION. The host interface (60_exceptions.md R258): the full result of `step()` with the fault latch,
`requestInterrupt`, bus changes between steps, and the boot gate (70_reset_and_hazards.md R273, R274). -/

namespace Sys2Proof.Machine

/-- What `step()` returns (00_scope.md R10): `Ok(n)` or `Fault(f)`. -/
inductive StepReturn where
  | ok (n : Nat)
  | fault (f : Fault)
deriving DecidableEq, Repr

/-- The core cells of a state. -/
def State.cells (s : State) : CoreCells :=
  { a := s.a, f := s.f, b := s.b, c := s.c, d := s.d, e := s.e, h := s.h, l := s.l, sp := s.sp, pc := s.pc
    ime := s.ime, eiPending := s.eiPending, halted := s.halted, haltBug := s.haltBug, stopped := s.stopped
    ifr := s.ifr, ie := s.ie, unset := s.unset }

/-- The state after a step that raised `f`: the latch holds `f`, the counter is unchanged, the bus is as the accesses made
before the fault left it, and every other core cell is a free value (60_exceptions.md R234, R235; log entry 8). Whether a
cell is UNDEF then is free too: R235 leaves the cells' contents unspecified and does not say whether a mark stays (the
model's choice, log entry 8). -/
def State.afterFault (s : State) (f : Fault) : State :=
  let x := Config.afterFault s.cells s.cycles
  { s with
    a := x.a, f := x.f, b := x.b, c := x.c, d := x.d, e := x.e, h := x.h, l := x.l, sp := x.sp, pc := x.pc
    ime := x.ime, eiPending := x.eiPending, halted := x.halted, haltBug := x.haltBug, stopped := x.stopped
    ifr := x.ifr, ie := x.ie, unset := x.unset, bus := f.bus, fault := some f }

/-- One call of `step()` with its result and the state it leaves (60_exceptions.md R249, R250): n is what the counter
gained. After a fault nothing changes any more (R234). No arm of `exec` refuses; a refusal would leave the state alone. -/
def stepCall (s : State) : StepReturn × State :=
  match s.fault with
  | some f => (.fault f, s)
  | none =>
    match step s with
    | .next t => (.ok (t.cycles - s.cycles).toNat, t)
    | .fault f => (.fault f, s.afterFault f)
    | .refused _ => (.ok 0, s)

/-- `requestInterrupt(i)` between steps (60_exceptions.md R237): none is the refusal of an index outside 0..4. It sets one
bit, so it gives no value to an IF that is UNDEF (log entry 7). -/
def requestInterrupt (i : Nat) (s : State) : Option State :=
  if i ≤ 4 then some { s with ifr := s.ifr ||| (1#5 <<< i) } else none

/-- A peripheral or the host changes the state of the bus between steps, to any other state `b` of the same bus: the bytes of
its devices, and on RAM_BUS the sets `readable` and `writable` too (20_memory.md R69, R74). It reaches the bus, never IF or
IE, which only the core decodes (20_memory.md R53; log entry 19). -/
def peripheralChange (b : Bus) (s : State) : State := s.setBus b

/-- The running accumulator of the header checksum over `count` bytes from `a` (70_reset_and_hazards.md R274). -/
def checksumFrom (b : Bus) (a : Word) (x : Byte) : Nat → Byte
  | 0 => x
  | count + 1 => checksumFrom b (inc16 a) (x - b.peek a - 1#8) count

/-- `HeaderChecksumOK` over 0x0134 to 0x014C of the cartridge image, the accumulator starting at 0 (70_reset_and_hazards.md
R274). -/
def headerChecksumOK (b : Bus) : Bool := checksumFrom b 0x0134#16 0x00#8 25 = b.peek 0x014D#16

/-- The boot gate (70_reset_and_hazards.md R273): none is ChecksumFault, and then the core is never stepped. -/
def bootGate (s : State) : Option State := if headerChecksumOK s.bus then some s else none

end Sys2Proof.Machine
end

