-- ==== Sys2Proof/Safety.lean ====
section
/-! DEFINITION. The terms the claims use: what a read of the address space sees, when an operand can be read or stored, what
an instruction may write, the invariant of the machine, and its runs. -/

namespace Sys2Proof.Machine

/-! ### The address space as the core sees it -/

/-- The byte a CPU read of `a` returns where it succeeds (20_memory.md R54). On RAM_BUS it is `mem[a]`. -/
def State.byteAt (s : State) (a : Word) : Byte :=
  if a = ifAddr then 0xE0#8 ||| s.ifr.zeroExtend 8
  else if a = ieAddr then s.ie
  else (s.bus.readByte a).1.getD (s.bus.peek a)

/-- A CPU read of `a` succeeds: the bus does not fail, and IF or IE holds a value (20_memory.md R53, R54; 10_state.md R44). -/
def State.canRead (s : State) (a : Word) : Bool :=
  if a = ifAddr then !s.unset.ifr
  else if a = ieAddr then !s.unset.ie
  else (s.bus.readByte a).1.isSome

/-- The state after a CPU read of `a`: a read of the bus may change the bus (20_memory.md R51, R64); on RAM_BUS it does not. -/
def State.afterRead (s : State) (a : Word) : State :=
  if a = ifAddr then s
  else if a = ieAddr then s
  else s.setBus (s.bus.readByte a).2

/-- A CPU write of `v` to `a` succeeds (20_memory.md R53, R55). -/
def State.canWrite (s : State) (a : Word) (v : Byte) : Bool := a = ifAddr || a = ieAddr || (s.bus.writeByte a v).1

/-- The state after a CPU write of `v` to `a` (20_memory.md R55). -/
def State.storeByte (s : State) (a : Word) (v : Byte) : State :=
  if a = ifAddr then s.setIf v
  else if a = ieAddr then s.setIe v
  else s.setBus (s.bus.writeByte a v).2

/-- The address is neither IF's nor IE's: it belongs to the bus (20_memory.md R53). -/
def onBus (a : Word) : Bool := a ≠ ifAddr && a ≠ ieAddr

/-! ### Operands -/

/-- The operand `r8[n]` can be read: its register, or HL and the byte there. -/
def State.opndReady (s : State) : Opnd8 → Bool
  | .reg r => !s.unset.reg r
  | .indHl => !s.unset.pair .hl && s.canRead (s.pair .hl)

/-- The operand's value. -/
def State.opnd (s : State) : Opnd8 → Byte
  | .reg r => s.reg r
  | .indHl => s.byteAt (s.pair .hl)

/-- The state after a read of the operand. -/
def State.afterOpnd (s : State) : Opnd8 → State
  | .reg _ => s
  | .indHl => s.afterRead (s.pair .hl)

/-- The operand can be stored to with the value `v`. -/
def State.opndStorable (s : State) (o : Opnd8) (v : Byte) : Bool :=
  match o with
  | .reg _ => true
  | .indHl => !s.unset.pair .hl && s.canWrite (s.pair .hl) v

/-- The state with the operand holding `v`. -/
def State.setOpnd (s : State) (o : Opnd8) (v : Byte) : State :=
  match o with
  | .reg r => s.setReg r v
  | .indHl => s.storeByte (s.pair .hl) v

/-- The second operand of the ALU group can be read. -/
def State.srcReady (s : State) : Src8 → Bool
  | .reg r => !s.unset.reg r
  | .indHl => s.opndReady .indHl
  | .imm _ => true

/-- The second operand of the ALU group (43_alu8.md R150). -/
def State.src (s : State) : Src8 → Byte
  | .reg r => s.reg r
  | .indHl => s.opnd .indHl
  | .imm n => n

/-- The state after a read of the second operand of the ALU group. -/
def State.afterSrc (s : State) : Src8 → State
  | .reg _ => s
  | .indHl => s.afterOpnd .indHl
  | .imm _ => s

/-- The cycles of an ALU instruction (43_alu8.md R150). -/
def srcCycles : Src8 → Nat
  | .reg _ => 4
  | .indHl => 8
  | .imm _ => 8

/-- A memory operand's address register holds a value. -/
def State.memOpndReady (s : State) : MemOpnd → Bool
  | .indBc => !s.unset.pair .bc
  | .indDe => !s.unset.pair .de
  | .indHlInc => !s.unset.pair .hl
  | .indHlDec => !s.unset.pair .hl
  | .abs _ => true
  | .high _ => true
  | .highC => !s.unset.c

/-- The cycles of a load or store of A: 8, one M-cycle more for each immediate byte (41_load8.md R125 to R138). -/
def memOpndCycles : MemOpnd → Nat
  | .indBc => 8
  | .indDe => 8
  | .indHlInc => 8
  | .indHlDec => 8
  | .abs _ => 16
  | .high _ => 12
  | .highC => 8

/-- Both bytes of a push of `v` can be written, the high byte first (42_load16_stack.md R140). -/
def State.canPush (s : State) (v : Word) : Bool :=
  !s.unset.sp && s.canWrite (s.sp - 1#16) (hiByte v) &&
    (s.storeByte (s.sp - 1#16) (hiByte v)).canWrite (s.sp - 2#16) (loByte v)

/-- The state after `Push16(v)`: the high byte below SP, then the low byte below it (42_load16_stack.md R140). -/
def State.pushed (s : State) (v : Word) : State :=
  ((s.storeByte (s.sp - 1#16) (hiByte v)).storeByte (s.sp - 2#16) (loByte v)).setSp (s.sp - 2#16)

/-- Both bytes of a pop can be read, the low byte first (42_load16_stack.md R141). -/
def State.canPop (s : State) : Bool := !s.unset.sp && s.canRead s.sp && (s.afterRead s.sp).canRead (s.sp + 1#16)

/-- The word on the stack (42_load16_stack.md R141). -/
def State.top (s : State) : Word := word16 ((s.afterRead s.sp).byteAt (s.sp + 1#16)) (s.byteAt s.sp)

/-- The state after `Pop16()` (42_load16_stack.md R141). -/
def State.popped (s : State) : State := ((s.afterRead s.sp).afterRead (s.sp + 1#16)).setSp (s.sp + 2#16)

/-! ### What an instruction may write -/

/-- The eleven illegal opcodes as terms (30_encoding.md R97). -/
def isIllegal (i : Instr) : Bool :=
  match i with
  | .illegalD3 | .illegalDB | .illegalDD | .illegalE3 | .illegalE4 | .illegalEB | .illegalEC | .illegalED
  | .illegalF4 | .illegalFC | .illegalFD
    => true
  | _ => false

/-- The eleven illegal opcodes (30_encoding.md R97). -/
def illegalOpcodes : List Byte :=
  [0xD3#8, 0xDB#8, 0xDD#8, 0xE3#8, 0xE4#8, 0xEB#8, 0xEC#8, 0xED#8, 0xF4#8, 0xFC#8, 0xFD#8]

/-- What a descriptor's policy says of a flag's value before and after (30_encoding.md R101). -/
def policyAllows (p : FlagPolicy) (before after : Bool) : Prop :=
  match p with
  | .keep => after = before
  | .clear => after = false
  | .set => after = true
  | .computed => True

/-- The register a CB instruction writes: none for BIT and for (HL) (45_rotate_shift_bit.md R184). -/
def cbDest : Field2 → Opnd8 → List Reg8
  | .v1, _ => []
  | .v0, .reg r => [r]
  | .v2, .reg r => [r]
  | .v3, .reg r => [r]
  | .v0, .indHl => []
  | .v2, .indHl => []
  | .v3, .indHl => []

/-- The general registers an instruction may write (10_state.md R42). -/
def destRegs (i : Instr) : List Reg8 :=
  match i with
  | .nop | .ldIndBcA | .ldIndA16Sp _ | .stop _ | .ldIndDeA | .jrE8 _ | .jrNzE8 _ | .jrZE8 _ | .jrNcE8 _ | .ldSpD16 _
  | .incSp | .incIndHl | .decIndHl | .ldIndHlD8 _ | .scf | .jrCE8 _ | .decSp | .ccf | .ldIndHlB | .ldIndHlC
  | .ldIndHlD | .ldIndHlE | .ldIndHlH | .ldIndHlL | .halt | .ldIndHlA | .cpB | .cpC | .cpD | .cpE | .cpH | .cpL
  | .cpIndHl | .cpA | .retNz | .jpNzA16 _ | .jpA16 _ | .callNzA16 _ | .pushBc | .rst00h | .retZ | .ret | .jpZA16 _
  | .callZA16 _ | .callA16 _ | .rst08h | .retNc | .jpNcA16 _ | .illegalD3 | .callNcA16 _ | .pushDe | .rst10h | .retC
  | .reti | .jpCA16 _ | .illegalDB | .callCA16 _ | .illegalDD | .rst18h | .ldhIndA8A _ | .ldhIndCA | .illegalE3
  | .illegalE4 | .pushHl | .rst20h | .addSpE8 _ | .jpHl | .ldIndA16A _ | .illegalEB | .illegalEC | .illegalED
  | .rst28h | .di | .illegalF4 | .pushAf | .rst30h | .ldSpHl | .ei | .illegalFC | .illegalFD | .cpD8 _ | .rst38h
  | .rlcIndHl | .rrcIndHl | .rlIndHl | .rrIndHl | .slaIndHl | .sraIndHl | .swapIndHl | .srlIndHl | .bit0B | .bit0C
  | .bit0D | .bit0E | .bit0H | .bit0L | .bit0IndHl | .bit0A | .bit1B | .bit1C | .bit1D | .bit1E | .bit1H | .bit1L
  | .bit1IndHl | .bit1A | .bit2B | .bit2C | .bit2D | .bit2E | .bit2H | .bit2L | .bit2IndHl | .bit2A | .bit3B | .bit3C
  | .bit3D | .bit3E | .bit3H | .bit3L | .bit3IndHl | .bit3A | .bit4B | .bit4C | .bit4D | .bit4E | .bit4H | .bit4L
  | .bit4IndHl | .bit4A | .bit5B | .bit5C | .bit5D | .bit5E | .bit5H | .bit5L | .bit5IndHl | .bit5A | .bit6B | .bit6C
  | .bit6D | .bit6E | .bit6H | .bit6L | .bit6IndHl | .bit6A | .bit7B | .bit7C | .bit7D | .bit7E | .bit7H | .bit7L
  | .bit7IndHl | .bit7A | .res0IndHl | .res1IndHl | .res2IndHl | .res3IndHl | .res4IndHl | .res5IndHl | .res6IndHl
  | .res7IndHl | .set0IndHl | .set1IndHl | .set2IndHl | .set3IndHl | .set4IndHl | .set5IndHl | .set6IndHl
  | .set7IndHl
    => []
  | .ldBcD16 _ | .incBc | .decBc | .popBc
    => [.b, .c]
  | .incB | .decB | .ldBD8 _ | .ldBB | .ldBC | .ldBD | .ldBE | .ldBH | .ldBL | .ldBIndHl | .ldBA | .rlcB | .rrcB
  | .rlB | .rrB | .slaB | .sraB | .swapB | .srlB | .res0B | .res1B | .res2B | .res3B | .res4B | .res5B | .res6B
  | .res7B | .set0B | .set1B | .set2B | .set3B | .set4B | .set5B | .set6B | .set7B
    => [.b]
  | .rlca | .ldAIndBc | .rrca | .rla | .ldAIndDe | .rra | .daa | .cpl | .incA | .decA | .ldAD8 _ | .ldAB | .ldAC
  | .ldAD | .ldAE | .ldAH | .ldAL | .ldAIndHl | .ldAA | .addAB | .addAC | .addAD | .addAE | .addAH | .addAL
  | .addAIndHl | .addAA | .adcAB | .adcAC | .adcAD | .adcAE | .adcAH | .adcAL | .adcAIndHl | .adcAA | .subB | .subC
  | .subD | .subE | .subH | .subL | .subIndHl | .subA | .sbcAB | .sbcAC | .sbcAD | .sbcAE | .sbcAH | .sbcAL
  | .sbcAIndHl | .sbcAA | .andB | .andC | .andD | .andE | .andH | .andL | .andIndHl | .andA | .xorB | .xorC | .xorD
  | .xorE | .xorH | .xorL | .xorIndHl | .xorA | .orB | .orC | .orD | .orE | .orH | .orL | .orIndHl | .orA | .addAD8 _
  | .adcAD8 _ | .subD8 _ | .sbcAD8 _ | .andD8 _ | .xorD8 _ | .ldhAIndA8 _ | .popAf | .ldhAIndC | .orD8 _
  | .ldAIndA16 _ | .rlcA | .rrcA | .rlA | .rrA | .slaA | .sraA | .swapA | .srlA | .res0A | .res1A | .res2A | .res3A
  | .res4A | .res5A | .res6A | .res7A | .set0A | .set1A | .set2A | .set3A | .set4A | .set5A | .set6A | .set7A
    => [.a]
  | .addHlBc | .addHlDe | .ldHlD16 _ | .ldIndHlIncA | .incHl | .addHlHl | .decHl | .ldIndHlDecA | .addHlSp | .popHl
  | .ldHlSpE8 _
    => [.h, .l]
  | .incC | .decC | .ldCD8 _ | .ldCB | .ldCC | .ldCD | .ldCE | .ldCH | .ldCL | .ldCIndHl | .ldCA | .rlcC | .rrcC
  | .rlC | .rrC | .slaC | .sraC | .swapC | .srlC | .res0C | .res1C | .res2C | .res3C | .res4C | .res5C | .res6C
  | .res7C | .set0C | .set1C | .set2C | .set3C | .set4C | .set5C | .set6C | .set7C
    => [.c]
  | .ldDeD16 _ | .incDe | .decDe | .popDe
    => [.d, .e]
  | .incD | .decD | .ldDD8 _ | .ldDB | .ldDC | .ldDD | .ldDE | .ldDH | .ldDL | .ldDIndHl | .ldDA | .rlcD | .rrcD
  | .rlD | .rrD | .slaD | .sraD | .swapD | .srlD | .res0D | .res1D | .res2D | .res3D | .res4D | .res5D | .res6D
  | .res7D | .set0D | .set1D | .set2D | .set3D | .set4D | .set5D | .set6D | .set7D
    => [.d]
  | .incE | .decE | .ldED8 _ | .ldEB | .ldEC | .ldED | .ldEE | .ldEH | .ldEL | .ldEIndHl | .ldEA | .rlcE | .rrcE
  | .rlE | .rrE | .slaE | .sraE | .swapE | .srlE | .res0E | .res1E | .res2E | .res3E | .res4E | .res5E | .res6E
  | .res7E | .set0E | .set1E | .set2E | .set3E | .set4E | .set5E | .set6E | .set7E
    => [.e]
  | .incH | .decH | .ldHD8 _ | .ldHB | .ldHC | .ldHD | .ldHE | .ldHH | .ldHL | .ldHIndHl | .ldHA | .rlcH | .rrcH
  | .rlH | .rrH | .slaH | .sraH | .swapH | .srlH | .res0H | .res1H | .res2H | .res3H | .res4H | .res5H | .res6H
  | .res7H | .set0H | .set1H | .set2H | .set3H | .set4H | .set5H | .set6H | .set7H
    => [.h]
  | .ldAIndHlInc | .ldAIndHlDec
    => [.a, .h, .l]
  | .incL | .decL | .ldLD8 _ | .ldLB | .ldLC | .ldLD | .ldLE | .ldLH | .ldLL | .ldLIndHl | .ldLA | .rlcL | .rrcL
  | .rlL | .rrL | .slaL | .sraL | .swapL | .srlL | .res0L | .res1L | .res2L | .res3L | .res4L | .res5L | .res6L
  | .res7L | .set0L | .set1L | .set2L | .set3L | .set4L | .set5L | .set6L | .set7L
    => [.l]
  | .prefixCb op2 => cbDest (field2 op2 6) (opnd8 (field3 op2 0))

/-- The instructions that write SP (10_state.md R29). -/
def writesSp (i : Instr) : Bool :=
  match i with
  | .ldSpD16 _ | .incSp | .decSp | .retNz | .popBc | .callNzA16 _ | .pushBc | .rst00h | .retZ | .ret | .callZA16 _
  | .callA16 _ | .rst08h | .retNc | .popDe | .callNcA16 _ | .pushDe | .rst10h | .retC | .reti | .callCA16 _ | .rst18h
  | .popHl | .pushHl | .rst20h | .addSpE8 _ | .rst28h | .popAf | .pushAf | .rst30h | .ldSpHl | .rst38h
    => true
  | _ => false

/-- The instructions that set PC: the jumps, calls and returns (10_state.md R42). -/
def writesPc (i : Instr) : Bool :=
  match i with
  | .jrE8 _ | .jrNzE8 _ | .jrZE8 _ | .jrNcE8 _ | .jrCE8 _ | .retNz | .jpNzA16 _ | .jpA16 _ | .callNzA16 _ | .rst00h
  | .retZ | .ret | .jpZA16 _ | .callZA16 _ | .callA16 _ | .rst08h | .retNc | .jpNcA16 _ | .callNcA16 _ | .rst10h
  | .retC | .reti | .jpCA16 _ | .callCA16 _ | .rst18h | .rst20h | .jpHl | .rst28h | .rst30h | .rst38h
    => true
  | _ => false

/-! ### What an instruction reads and stores, in its order -/

/-- Something an instruction needs: the value of a cell (10_state.md R44), or a byte read or written at an address
(20_memory.md R62). -/
inductive Access where
  | cell (q : RegCell)
  | read (a : Word)
  | write (a : Word) (v : Byte)
deriving DecidableEq, Repr

/-- The UNDEF mark of a cell; a pair is UNDEF if either half is (10_state.md R44). -/
def Unset.cell (u : Unset) : RegCell → Bool
  | .a => u.a
  | .f => u.f
  | .b => u.b
  | .c => u.c
  | .d => u.d
  | .e => u.e
  | .h => u.h
  | .l => u.l
  | .af => u.a || u.f
  | .bc => u.b || u.c
  | .de => u.d || u.e
  | .hl => u.h || u.l
  | .sp => u.sp
  | .ifr => u.ifr
  | .ie => u.ie

/-- The access succeeds. -/
def State.allows (s : State) : Access → Bool
  | .cell q => !s.unset.cell q
  | .read a => s.canRead a
  | .write a v => s.canWrite a v

/-- The state after the access. -/
def State.afterDoing (s : State) : Access → State
  | .cell _ => s
  | .read a => s.afterRead a
  | .write a v => s.storeByte a v

/-- The fault of an access that does not succeed (10_state.md R44, 20_memory.md R54, R55, 60_exceptions.md R232, R233). -/
def State.refusal (s : State) : Access → Fault
  | .cell q => .undefinedRegisterFault q s.stepPc s.bus
  | .read a =>
    if a = ifAddr then .undefinedRegisterFault .ifr s.stepPc s.bus
    else if a = ieAddr then .undefinedRegisterFault .ie s.stepPc s.bus
    else .busFault (.read a) s.stepPc (s.afterRead a).bus
  | .write a v => .busFault (.write a v) s.stepPc (s.storeByte a v).bus

/-- The accesses one after another: the state after all of them, or the fault of the first that does not succeed. -/
def State.walk (s : State) : List Access → Except Fault State
  | [] => .ok s
  | x :: rest => if s.allows x then (s.afterDoing x).walk rest else .error (s.refusal x)

/-- HL and the byte there. -/
def readHl (s : State) : List Access := [.cell .hl, .read (s.pair .hl)]

/-- A read and a write of the byte at HL, which becomes `v` (30_encoding.md R103). -/
def changeHl (s : State) (v : Byte) : List Access := [.cell .hl, .read (s.pair .hl), .write (s.pair .hl) v]

/-- SP and the two stores of a push (42_load16_stack.md R140). -/
def pushAccesses (s : State) (v : Word) : List Access :=
  [.cell .sp, .write (dec16 s.sp) (hiByte v), .write (dec16 (dec16 s.sp)) (loByte v)]

/-- SP and the two reads of a pop (42_load16_stack.md R141). -/
def popAccesses (s : State) : List Access := [.cell .sp, .read s.sp, .read (inc16 s.sp)]

/-- The accesses of a CB instruction, by the fields of its second byte (45_rotate_shift_bit.md R184, R193 to R195). -/
def cbAccesses (op2 : Byte) (s : State) : List Access :=
  let y := field3 op2 3
  let rot := rotOfField y
  match field2 op2 6, opnd8 (field3 op2 0) with
  | .v0, .reg r => if rotUsesCarry rot then [.cell .f, .cell (regCell r)] else [.cell (regCell r)]
  | .v0, .indHl =>
    let change := changeHl s (rotate8 rot (s.opnd .indHl) (rotUsesCarry rot && flagC s.flags)).1
    if rotUsesCarry rot then .cell .f :: change else change
  | .v1, .reg r => [.cell (regCell r), .cell .f]
  | .v1, .indHl => readHl s ++ [.cell .f]
  | .v2, .reg r => [.cell (regCell r)]
  | .v2, .indHl => changeHl s (clearBit8 (bitNumber y) (s.opnd .indHl))
  | .v3, .reg r => [.cell (regCell r)]
  | .v3, .indHl => changeHl s (setBit8 (bitNumber y) (s.opnd .indHl))

/-- The cells an instruction reads (10_state.md R42) and its data accesses with the bytes it stores (20_memory.md R62), in its
order, from the state it starts in. Where the spec does not order two cells the order is that of log entry 6. -/
def accesses (i : Instr) (s : State) : List Access :=
  match i with
  | .nop | .ldBcD16 _ | .ldBD8 _ | .ldCD8 _ | .stop _ | .ldDeD16 _ | .ldDD8 _ | .jrE8 _ | .ldED8 _ | .ldHlD16 _
  | .ldHD8 _ | .ldLD8 _ | .ldSpD16 _ | .ldAD8 _ | .jpA16 _ | .illegalD3 | .illegalDB | .illegalDD | .illegalE3
  | .illegalE4 | .illegalEB | .illegalEC | .illegalED | .di | .illegalF4 | .ei | .illegalFC | .illegalFD
    => []
  | .ldIndBcA => [.cell .bc, .cell .a, .write (memAddress .indBc s) s.a]
  | .incBc | .decBc => [.cell .bc]
  | .incB | .decB | .bit0B | .bit1B | .bit2B | .bit3B | .bit4B | .bit5B | .bit6B | .bit7B => [.cell .b, .cell .f]
  | .rlca | .rrca | .ldBA | .ldCA | .ldDA | .ldEA | .ldHA | .ldLA | .ldAA | .addAD8 _ | .subD8 _ | .andD8 _
  | .xorD8 _ | .orD8 _ | .cpD8 _ | .rlcA | .rrcA | .slaA | .sraA | .swapA | .srlA | .res0A | .res1A | .res2A | .res3A
  | .res4A | .res5A | .res6A | .res7A | .set0A | .set1A | .set2A | .set3A | .set4A | .set5A | .set6A | .set7A
    => [.cell .a]
  | .ldIndA16Sp a => [.cell .sp, .write a (loByte s.sp), .write (inc16 a) (hiByte s.sp)]
  | .addHlBc => [.cell .bc, .cell .hl, .cell .f]
  | .ldAIndBc => [.cell .bc, .read (memAddress .indBc s)]
  | .incC | .decC | .bit0C | .bit1C | .bit2C | .bit3C | .bit4C | .bit5C | .bit6C | .bit7C => [.cell .c, .cell .f]
  | .ldIndDeA => [.cell .de, .cell .a, .write (memAddress .indDe s) s.a]
  | .incDe | .decDe => [.cell .de]
  | .incD | .decD | .bit0D | .bit1D | .bit2D | .bit3D | .bit4D | .bit5D | .bit6D | .bit7D => [.cell .d, .cell .f]
  | .rla | .rra | .adcAD8 _ | .sbcAD8 _ | .rlA | .rrA => [.cell .f, .cell .a]
  | .addHlDe => [.cell .de, .cell .hl, .cell .f]
  | .ldAIndDe => [.cell .de, .read (memAddress .indDe s)]
  | .incE | .decE | .bit0E | .bit1E | .bit2E | .bit3E | .bit4E | .bit5E | .bit6E | .bit7E => [.cell .e, .cell .f]
  | .jrNzE8 _ | .jrZE8 _ | .jrNcE8 _ | .scf | .jrCE8 _ | .ccf | .jpNzA16 _ | .jpZA16 _ | .jpNcA16 _ | .jpCA16 _
    => [.cell .f]
  | .ldIndHlIncA => [.cell .hl, .cell .a, .write (memAddress .indHlInc s) s.a]
  | .incHl | .decHl | .jpHl | .ldSpHl => [.cell .hl]
  | .incH | .decH | .bit0H | .bit1H | .bit2H | .bit3H | .bit4H | .bit5H | .bit6H | .bit7H => [.cell .h, .cell .f]
  | .daa | .cpl | .incA | .decA | .bit0A | .bit1A | .bit2A | .bit3A | .bit4A | .bit5A | .bit6A | .bit7A
    => [.cell .a, .cell .f]
  | .addHlHl => [.cell .hl, .cell .hl, .cell .f]
  | .ldAIndHlInc => [.cell .hl, .read (memAddress .indHlInc s)]
  | .incL | .decL | .bit0L | .bit1L | .bit2L | .bit3L | .bit4L | .bit5L | .bit6L | .bit7L => [.cell .l, .cell .f]
  | .ldIndHlDecA => [.cell .hl, .cell .a, .write (memAddress .indHlDec s) s.a]
  | .incSp | .decSp | .addSpE8 _ | .ldHlSpE8 _ => [.cell .sp]
  | .incIndHl => changeHl s (inc8 (s.opnd .indHl)) ++ [.cell .f]
  | .decIndHl => changeHl s (dec8 (s.opnd .indHl)) ++ [.cell .f]
  | .ldIndHlD8 n => [.cell .hl, .write (s.pair .hl) n]
  | .addHlSp => [.cell .sp, .cell .hl, .cell .f]
  | .ldAIndHlDec => [.cell .hl, .read (memAddress .indHlDec s)]
  | .ldBB | .ldCB | .ldDB | .ldEB | .ldHB | .ldLB | .ldAB | .rlcB | .rrcB | .slaB | .sraB | .swapB | .srlB | .res0B
  | .res1B | .res2B | .res3B | .res4B | .res5B | .res6B | .res7B | .set0B | .set1B | .set2B | .set3B | .set4B
  | .set5B | .set6B | .set7B
    => [.cell .b]
  | .ldBC | .ldCC | .ldDC | .ldEC | .ldHC | .ldLC | .ldAC | .rlcC | .rrcC | .slaC | .sraC | .swapC | .srlC | .res0C
  | .res1C | .res2C | .res3C | .res4C | .res5C | .res6C | .res7C | .set0C | .set1C | .set2C | .set3C | .set4C
  | .set5C | .set6C | .set7C
    => [.cell .c]
  | .ldBD | .ldCD | .ldDD | .ldED | .ldHD | .ldLD | .ldAD | .rlcD | .rrcD | .slaD | .sraD | .swapD | .srlD | .res0D
  | .res1D | .res2D | .res3D | .res4D | .res5D | .res6D | .res7D | .set0D | .set1D | .set2D | .set3D | .set4D
  | .set5D | .set6D | .set7D
    => [.cell .d]
  | .ldBE | .ldCE | .ldDE | .ldEE | .ldHE | .ldLE | .ldAE | .rlcE | .rrcE | .slaE | .sraE | .swapE | .srlE | .res0E
  | .res1E | .res2E | .res3E | .res4E | .res5E | .res6E | .res7E | .set0E | .set1E | .set2E | .set3E | .set4E
  | .set5E | .set6E | .set7E
    => [.cell .e]
  | .ldBH | .ldCH | .ldDH | .ldEH | .ldHH | .ldLH | .ldAH | .rlcH | .rrcH | .slaH | .sraH | .swapH | .srlH | .res0H
  | .res1H | .res2H | .res3H | .res4H | .res5H | .res6H | .res7H | .set0H | .set1H | .set2H | .set3H | .set4H
  | .set5H | .set6H | .set7H
    => [.cell .h]
  | .ldBL | .ldCL | .ldDL | .ldEL | .ldHL | .ldLL | .ldAL | .rlcL | .rrcL | .slaL | .sraL | .swapL | .srlL | .res0L
  | .res1L | .res2L | .res3L | .res4L | .res5L | .res6L | .res7L | .set0L | .set1L | .set2L | .set3L | .set4L
  | .set5L | .set6L | .set7L
    => [.cell .l]
  | .ldBIndHl | .ldCIndHl | .ldDIndHl | .ldEIndHl | .ldHIndHl | .ldLIndHl | .ldAIndHl => readHl s
  | .ldIndHlB => [.cell .hl, .cell .b, .write (s.pair .hl) s.b]
  | .ldIndHlC => [.cell .hl, .cell .c, .write (s.pair .hl) s.c]
  | .ldIndHlD => [.cell .hl, .cell .d, .write (s.pair .hl) s.d]
  | .ldIndHlE => [.cell .hl, .cell .e, .write (s.pair .hl) s.e]
  | .ldIndHlH => [.cell .hl, .cell .h, .write (s.pair .hl) s.h]
  | .ldIndHlL => [.cell .hl, .cell .l, .write (s.pair .hl) s.l]
  | .halt => if s.ime then [] else [.cell .ie, .cell .ifr]
  | .ldIndHlA => [.cell .hl, .cell .a, .write (s.pair .hl) s.a]
  | .addAB | .subB | .andB | .xorB | .orB | .cpB => [.cell .b, .cell .a]
  | .addAC | .subC | .andC | .xorC | .orC | .cpC => [.cell .c, .cell .a]
  | .addAD | .subD | .andD | .xorD | .orD | .cpD => [.cell .d, .cell .a]
  | .addAE | .subE | .andE | .xorE | .orE | .cpE => [.cell .e, .cell .a]
  | .addAH | .subH | .andH | .xorH | .orH | .cpH => [.cell .h, .cell .a]
  | .addAL | .subL | .andL | .xorL | .orL | .cpL => [.cell .l, .cell .a]
  | .addAIndHl | .subIndHl | .andIndHl | .xorIndHl | .orIndHl | .cpIndHl => readHl s ++ [.cell .a]
  | .addAA | .subA | .andA | .xorA | .orA | .cpA => [.cell .a, .cell .a]
  | .adcAB | .sbcAB => [.cell .f, .cell .b, .cell .a]
  | .adcAC | .sbcAC => [.cell .f, .cell .c, .cell .a]
  | .adcAD | .sbcAD => [.cell .f, .cell .d, .cell .a]
  | .adcAE | .sbcAE => [.cell .f, .cell .e, .cell .a]
  | .adcAH | .sbcAH => [.cell .f, .cell .h, .cell .a]
  | .adcAL | .sbcAL => [.cell .f, .cell .l, .cell .a]
  | .adcAIndHl | .sbcAIndHl => .cell .f :: readHl s ++ [.cell .a]
  | .adcAA | .sbcAA => [.cell .f, .cell .a, .cell .a]
  | .retNz => .cell .f :: if condHolds .nz s.flags then popAccesses s else []
  | .popBc | .ret | .popDe | .reti | .popHl | .popAf => popAccesses s
  | .callNzA16 _ => .cell .f :: if condHolds .nz s.flags then pushAccesses s s.pc else []
  | .pushBc => .cell .bc :: pushAccesses s (s.pair .bc)
  | .rst00h | .callA16 _ | .rst08h | .rst10h | .rst18h | .rst20h | .rst28h | .rst30h | .rst38h => pushAccesses s s.pc
  | .retZ => .cell .f :: if condHolds .z s.flags then popAccesses s else []
  | .callZA16 _ => .cell .f :: if condHolds .z s.flags then pushAccesses s s.pc else []
  | .retNc => .cell .f :: if condHolds .nc s.flags then popAccesses s else []
  | .callNcA16 _ => .cell .f :: if condHolds .nc s.flags then pushAccesses s s.pc else []
  | .pushDe => .cell .de :: pushAccesses s (s.pair .de)
  | .retC => .cell .f :: if condHolds .c s.flags then popAccesses s else []
  | .callCA16 _ => .cell .f :: if condHolds .c s.flags then pushAccesses s s.pc else []
  | .ldhIndA8A n => [.cell .a, .write (memAddress (.high n) s) s.a]
  | .ldhIndCA => [.cell .c, .cell .a, .write (memAddress .highC s) s.a]
  | .pushHl => .cell .hl :: pushAccesses s (s.pair .hl)
  | .ldIndA16A a => [.cell .a, .write (memAddress (.abs a) s) s.a]
  | .ldhAIndA8 n => [.read (memAddress (.high n) s)]
  | .ldhAIndC => [.cell .c, .read (memAddress .highC s)]
  | .pushAf => .cell .af :: pushAccesses s (s.pair .af)
  | .ldAIndA16 a => [.read (memAddress (.abs a) s)]
  | .rlcIndHl => changeHl s (rotate8 .rlc (s.opnd .indHl) false).1
  | .rrcIndHl => changeHl s (rotate8 .rrc (s.opnd .indHl) false).1
  | .rlB | .rrB => [.cell .f, .cell .b]
  | .rlC | .rrC => [.cell .f, .cell .c]
  | .rlD | .rrD => [.cell .f, .cell .d]
  | .rlE | .rrE => [.cell .f, .cell .e]
  | .rlH | .rrH => [.cell .f, .cell .h]
  | .rlL | .rrL => [.cell .f, .cell .l]
  | .rlIndHl => .cell .f :: changeHl s (rotate8 .rl (s.opnd .indHl) (flagC s.flags)).1
  | .rrIndHl => .cell .f :: changeHl s (rotate8 .rr (s.opnd .indHl) (flagC s.flags)).1
  | .slaIndHl => changeHl s (rotate8 .sla (s.opnd .indHl) false).1
  | .sraIndHl => changeHl s (rotate8 .sra (s.opnd .indHl) false).1
  | .swapIndHl => changeHl s (rotate8 .swap (s.opnd .indHl) false).1
  | .srlIndHl => changeHl s (rotate8 .srl (s.opnd .indHl) false).1
  | .bit0IndHl | .bit1IndHl | .bit2IndHl | .bit3IndHl | .bit4IndHl | .bit5IndHl | .bit6IndHl | .bit7IndHl
    => readHl s ++ [.cell .f]
  | .res0IndHl => changeHl s (clearBit8 0 (s.opnd .indHl))
  | .res1IndHl => changeHl s (clearBit8 1 (s.opnd .indHl))
  | .res2IndHl => changeHl s (clearBit8 2 (s.opnd .indHl))
  | .res3IndHl => changeHl s (clearBit8 3 (s.opnd .indHl))
  | .res4IndHl => changeHl s (clearBit8 4 (s.opnd .indHl))
  | .res5IndHl => changeHl s (clearBit8 5 (s.opnd .indHl))
  | .res6IndHl => changeHl s (clearBit8 6 (s.opnd .indHl))
  | .res7IndHl => changeHl s (clearBit8 7 (s.opnd .indHl))
  | .set0IndHl => changeHl s (setBit8 0 (s.opnd .indHl))
  | .set1IndHl => changeHl s (setBit8 1 (s.opnd .indHl))
  | .set2IndHl => changeHl s (setBit8 2 (s.opnd .indHl))
  | .set3IndHl => changeHl s (setBit8 3 (s.opnd .indHl))
  | .set4IndHl => changeHl s (setBit8 4 (s.opnd .indHl))
  | .set5IndHl => changeHl s (setBit8 5 (s.opnd .indHl))
  | .set6IndHl => changeHl s (setBit8 6 (s.opnd .indHl))
  | .set7IndHl => changeHl s (setBit8 7 (s.opnd .indHl))
  | .prefixCb op2 => cbAccesses op2 s

/-- The address an access stores to. -/
def Access.storeAddr : Access → Option Word
  | .cell _ => none
  | .read _ => none
  | .write a _ => some a

/-- The addresses an instruction stores to, in its order, from the state it starts in (20_memory.md R62). -/
def storesTo (i : Instr) (s : State) : List Word := (accesses i s).filterMap Access.storeAddr

/-- The addresses the fetch of an instruction reads, for three bytes; under the halt quirk the first is read twice
(20_memory.md R60, R62, R63). -/
def State.fetchAddrs (s : State) : List Word :=
  if s.haltBug then [s.pc, s.pc, s.pc + 1#16] else [s.pc, s.pc + 1#16, s.pc + 2#16]

/-- The bytes that reads at these addresses return, one after another. -/
def State.bytesAt (s : State) : List Word → List Byte
  | [] => []
  | a :: rest => s.byteAt a :: (s.afterRead a).bytesAt rest

/-! ### The invariant and the runs -/

/-- The two-digit decimal number n as a BCD byte (43_alu8.md R163). -/
def bcd (n : Nat) : Byte := BitVec.ofNat 8 (n / 10 * 16 + n % 10)

/-- The bus refuses no access, in this state or in any other with the same permissions. -/
def Bus.NeverFails (b : Bus) : Prop :=
  ∀ c : Bus, b.sameMap c → ∀ (a : Word) (v : Byte), (c.readByte a).1.isSome = true ∧ (c.writeByte a v).1 = true

/-- A machine with the default parameters (00_scope.md R4) on a bus that never fails, with every cell holding a value and no
fault latched. -/
structure State.Default (s : State) : Prop where
  noFault : s.fault = none
  allSet : s.unset = Unset.none
  accepts : s.bus.NeverFails
  quirk : s.haltBugPolicy = .reproduce
  waits : s.stopPolicy = .waitJoypad

/-- The invariant of a machine that runs: the array of RAM_BUS in its canonical form, F's low nibble 0 (10_state.md R24), no
fault latched (10_state.md R37), at most one of halted, stopped and halt_bug (60_exceptions.md R257), and halt_bug and stopped only
under the parameter that allows them (10_state.md R34, R35). -/
structure State.Inv (s : State) : Prop where
  busWf : s.bus.wf = true
  lowNibble : s.f &&& 0x0F#8 = 0#8
  noFault : s.fault = none
  haltedOnly : s.halted = true → s.stopped = false ∧ s.haltBug = false
  stoppedOnly : s.stopped = true → s.halted = false ∧ s.haltBug = false
  quirkAllowed : s.haltBug = true → s.haltBugPolicy = .reproduce
  stopAllowed : s.stopped = true → s.stopPolicy = .waitJoypad

/-- The step about to come fetches an instruction: no fault latched, not halted, not stopped, and no interrupt to serve
(60_exceptions.md R249). -/
structure State.Runs (s : State) : Prop where
  noFault : s.fault = none
  notStopped : s.stopped = false
  notHalted : s.halted = false
  noService : s.ime = true → s.unset.ie = false ∧ s.unset.ifr = false ∧ pendingOf s.ie s.ifr = 0#5

/-- One move of the whole system: a step of the core that returns `Ok(n)`, or an action of the host or a peripheral
between steps (60_exceptions.md R258, 20_memory.md R69). -/
inductive SystemMove : State → State → Prop where
  | step {s t : State} (h : step s = .next t) : SystemMove s t
  | interrupt {s t : State} (i : Nat) (h : requestInterrupt i s = some t) : SystemMove s t
  | bus {s : State} (b : Bus) (hb : s.bus.sameBus b = true) (hw : b.wf = true) : SystemMove s (peripheralChange b s)

/-- The states the system reaches from a reset with any parameters, BUS among them. -/
inductive Reachable : State → Prop where
  | reset (p : ResetProfile) (hb : HaltBugPolicy) (sp : StopPolicy) (bus : Bus) (h : bus.wf = true) :
      Reachable (State.resetWith p hb sp bus)
  | move {s t : State} (hs : Reachable s) (h : SystemMove s t) : Reachable t

/-- A safe run: `n` steps of the core without a fault. -/
def SafeRun (n : Nat) (s : State) : Prop := ∃ t, Sys2Proof.core.run n s = .next t

end Sys2Proof.Machine
end

