-- ==== Sys2Proof/Certificates/Slice0/Obligations.lean ====
section
/-! DEFINITION. The statements for the provers. Each is a `Prop` about the model; its docstring names the rules of spec/ it
formalises. `exec … = .next t` is the outcome the pseudocode's `return` gives; `tick n` adds the returned count. That `exec`
itself adds the count (log entry 9) and starts with PC past the instruction and its immediates (log entry 10) is the model's
reading of the sequencer: every statement about `exec` rests on it, and `StepRunsTheDecodedInstruction` ties it to the step.

The statements hold on every bus (log entry 1) unless they name RAM_BUS: `afterRead`, `afterOpnd` and `afterSrc` are the state
after a read, which on a bus other than RAM_BUS may change the bus (20_memory.md R51, R64). -/

open Sys2Proof Sys2Proof.Machine

/-! ### Encoding -/

/-- Words written out from the grids of 30_encoding.md R112, R113, one for each family. -/
def Obligations.DecodesSampleWords : Prop :=
  decode [0x00#8] = .ok (.nop, []) ∧
  decode [0x41#8] = .ok (.ldBC, []) ∧
  decode [0x36#8, 0x5A#8] = .ok (.ldIndHlD8 0x5A#8, []) ∧
  decode [0x08#8, 0x00#8, 0xC1#8] = .ok (.ldIndA16Sp 0xC100#16, []) ∧
  decode [0xF5#8] = .ok (.pushAf, []) ∧
  decode [0x9E#8] = .ok (.sbcAIndHl, []) ∧
  decode [0x39#8] = .ok (.addHlSp, []) ∧
  decode [0xCB#8, 0x7E#8] = .ok (.bit7IndHl, []) ∧
  decode [0x38#8, 0xFE#8] = .ok (.jrCE8 0xFE#8, []) ∧
  decode [0x76#8] = .ok (.halt, []) ∧
  decode [0xED#8] = .ok (.illegalED, [])

/-- Decoding the encoding of a well-formed instruction gives it back, with whatever bytes follow. -/
def Obligations.DecodeOfEncode : Prop :=
  ∀ (i : Instr) (rest : List Byte), i.wellFormed = true → decode (encode i ++ rest) = .ok (i, rest)

/-- Bytes that decode are the encoding of the instruction they decode to: no two byte sequences mean one instruction. -/
def Obligations.EncodeOfDecode : Prop :=
  ∀ (bytes : List Byte) (i : Instr) (rest : List Byte),
    decode bytes = .ok (i, rest) → i.wellFormed = true ∧ bytes = encode i ++ rest

/-- An instruction is as long as its descriptor says, between one and three bytes, and three bytes always decode
(30_encoding.md R80). -/
def Obligations.DecodedLength : Prop :=
  (∀ (bytes : List Byte) (i : Instr) (rest : List Byte), decode bytes = .ok (i, rest) →
    bytes.length = i.descriptor.length + rest.length ∧ 1 ≤ i.descriptor.length ∧ i.descriptor.length ≤ 3) ∧
  (∀ (b0 b1 b2 : Byte) (rest : List Byte), ∃ i left, decode (b0 :: b1 :: b2 :: rest) = .ok (i, left))

/-- The illegal rows are exactly those of the eleven opcodes of 30_encoding.md R97, and none is in the CB table (R98). -/
def Obligations.ElevenIllegalOpcodes : Prop :=
  (∀ op b1 b2 : Byte, isIllegal (decodeBase op b1 b2) = true ↔ op ∈ illegalOpcodes) ∧
  (∀ op2 : Byte, isIllegal (decodeCb op2) = false)

/-! ### The step -/

/-- A step whose checks let an instruction run reads the bytes of the instruction, one after another, and is `exec` of it on
the state those reads leave, with PC past the bytes and `pc_at_step_start` noted; then an enable that was pending as the
instruction began and still is becomes ime (60_exceptions.md R244, R249, R251). Under the halt quirk the byte at PC is read
twice, as the opcode and again as the next byte, and PC ends one byte short (20_memory.md R60, 60_exceptions.md R247). -/
def Obligations.StepRunsTheDecodedInstruction : Prop :=
  ∀ (s u : State) (i : Instr) (rest : List Byte), s.Runs →
    (let addrs := if s.haltBug then [s.pc, s.pc, s.pc + 1#16] else [s.pc, s.pc + 1#16, s.pc + 2#16]
     let pc := if s.haltBug then s.pc + BitVec.ofNat 16 (i.descriptor.length - 1)
       else s.pc + BitVec.ofNat 16 i.descriptor.length
     decode (s.bytesAt addrs) = .ok (i, rest) →
     s.walk ((addrs.take i.descriptor.length).map .read) = .ok u →
     step s =
       (match exec i { u with stepPc := s.pc, haltBug := false, pc := pc } with
       | .next t =>
         .next (if s.eiPending = true ∧ t.eiPending = true then { t with ime := true, eiPending := false } else t)
       | .fault f => .fault f
       | .refused r => .refused r))

/-- The step stops at the first byte of the instruction whose read does not succeed, the opcode or a byte after it: with a
BusFault where the bus refuses it (20_memory.md R54, R60, 60_exceptions.md R232), and with the UndefinedRegisterFault of IF
or IE where PC stands there and that cell is UNDEF (20_memory.md R53, 10_state.md R44). The reads before it have been made. -/
def Obligations.RefusedFetchFaults : Prop :=
  ∀ (s u : State) (i : Instr) (rest : List Byte) (before after : List Word) (a : Word), s.Runs →
    decode (s.bytesAt s.fetchAddrs) = .ok (i, rest) →
    s.fetchAddrs.take i.descriptor.length = before ++ a :: after →
    s.walk (before.map .read) = .ok u →
    (onBus a = true → (u.bus.readByte a).1 = none →
      step s = .fault (.busFault (.read a) s.pc (u.bus.readByte a).2)) ∧
    (a = ifAddr → u.unset.ifr = true → step s = .fault (.undefinedRegisterFault .ifr s.pc u.bus)) ∧
    (a = ieAddr → u.unset.ie = true → step s = .fault (.undefinedRegisterFault .ie s.pc u.bus))

/-- Each illegal opcode stops the machine with a DecodeFault that names the step's PC, the opcode and the counter
(30_encoding.md R97, 60_exceptions.md R231). -/
def Obligations.IllegalOpcodesStop : Prop :=
  ∀ s : State,
    exec .illegalD3 s = .fault (.decodeFault s.stepPc 0xD3#8 s.cycles s.bus) ∧
    exec .illegalDB s = .fault (.decodeFault s.stepPc 0xDB#8 s.cycles s.bus) ∧
    exec .illegalDD s = .fault (.decodeFault s.stepPc 0xDD#8 s.cycles s.bus) ∧
    exec .illegalE3 s = .fault (.decodeFault s.stepPc 0xE3#8 s.cycles s.bus) ∧
    exec .illegalE4 s = .fault (.decodeFault s.stepPc 0xE4#8 s.cycles s.bus) ∧
    exec .illegalEB s = .fault (.decodeFault s.stepPc 0xEB#8 s.cycles s.bus) ∧
    exec .illegalEC s = .fault (.decodeFault s.stepPc 0xEC#8 s.cycles s.bus) ∧
    exec .illegalED s = .fault (.decodeFault s.stepPc 0xED#8 s.cycles s.bus) ∧
    exec .illegalF4 s = .fault (.decodeFault s.stepPc 0xF4#8 s.cycles s.bus) ∧
    exec .illegalFC s = .fault (.decodeFault s.stepPc 0xFC#8 s.cycles s.bus) ∧
    exec .illegalFD s = .fault (.decodeFault s.stepPc 0xFD#8 s.cycles s.bus)

/-- What each fault of a step means: where it happened, and what must hold for it to happen (60_exceptions.md R231 to R233,
10_state.md R44). A BusFault is a failure of the bus, in a state with the permissions it had as the step began. -/
def Obligations.FaultsHaveTheirCauses : Prop :=
  ∀ (s : State) (f : Fault), s.fault = none → step s = .fault f →
    match f with
    | .decodeFault pc op cycles _ =>
      pc = s.pc ∧ cycles = s.cycles ∧ op = s.byteAt s.pc ∧ op ∈ illegalOpcodes
    | .busFault (.read a) pc bus =>
      pc = s.pc ∧ onBus a = true ∧ ∃ b, s.bus.sameMap b ∧ b.readByte a = (none, bus)
    | .busFault (.write a v) pc bus =>
      pc = s.pc ∧ onBus a = true ∧ ∃ b, s.bus.sameMap b ∧ b.writeByte a v = (false, bus)
    | .haltBugFault pc _ =>
      pc = s.pc ∧ s.byteAt s.pc = 0x76#8 ∧ s.haltBugPolicy = .fault ∧ s.ime = false ∧ pendingOf s.ie s.ifr ≠ 0#5
    | .stopFault pc _ => pc = s.pc ∧ s.byteAt s.pc = 0x10#8 ∧ s.stopPolicy = .fault
    | .undefinedRegisterFault _ pc _ => pc = s.pc ∧ s.unset ≠ Unset.none

/-- A fault is terminal: the step that raises it latches it and leaves the counter, and every later step answers the same
fault and changes nothing (60_exceptions.md R234). The bus keeps the accesses made before, and RAM_BUS stays canonical
(R235). -/
def Obligations.FaultIsTerminal : Prop :=
  ∀ (s t : State) (f : Fault), stepCall s = (.fault f, t) →
    t.fault = some f ∧ t.cycles = s.cycles ∧ step t = .fault f ∧ stepCall t = (.fault f, t) ∧
      (s.fault = none → t.bus = f.bus) ∧ (s.bus.wf = true → s.fault = none → t.bus.wf = true)

/-- A step returns 4, 8, 12, 16, 20 or 24 and adds it to the counter (60_exceptions.md R250). -/
def Obligations.StepCountsItsCycles : Prop :=
  ∀ (s t : State) (n : Nat), stepCall s = (.ok n, t) →
    (n = 4 ∨ n = 8 ∨ n = 12 ∨ n = 16 ∨ n = 20 ∨ n = 24) ∧ t.cycles = s.cycles + BitVec.ofNat 64 n ∧ step s = .next t

/-- PROGRESS. On a bus that never fails, with every cell holding a value and the default parameters, a step can stop for one
reason only: an illegal opcode at PC (00_scope.md R9, 60_exceptions.md R230). Every other step answers a next state of the
same kind. -/
def Obligations.OnlyIllegalOpcodesStopTheDefaultMachine : Prop :=
  ∀ s : State, s.Default →
    (∃ t, step s = .next t ∧ t.Default) ∨
    (s.byteAt s.pc ∈ illegalOpcodes ∧
      step s = .fault (.decodeFault s.pc (s.byteAt s.pc) s.cycles (s.afterRead s.pc).bus))

/-! ### Interrupts, halt, stop -/

/-- Interrupt service: with ime set, the lowest requested source i is serviced. PC (or PC − 1 under the halt quirk) is
pushed, ime, ei_pending and IF[i] are cleared, PC goes to 0x0040 + 8 i, and the step counts 20 (60_exceptions.md R239,
R240, R241). A halted or stopped core that wakes services in the same step (R246, R248). That the step notes PC in `stepPc` is
log entry 11 (DESIGN CHOICE). -/
def Obligations.ServiceTakesTheLowestSource : Prop :=
  ∀ (s : State) (i : Nat), s.fault = none → s.ime = true → s.unset.ie = false → s.unset.ifr = false →
    (s.stopped = true → s.ifr.getLsbD 4 = true) →
    i < 5 → s.ie.getLsbD i = true → s.ifr.getLsbD i = true →
    (∀ j < i, (s.ie.getLsbD j && s.ifr.getLsbD j) = false) →
    s.canPush (if s.haltBug then s.pc - 1#16 else s.pc) = true →
    step s = .next (((({ s with
        stepPc := s.pc, stopped := false, halted := false, haltBug := false, ime := false, eiPending := false
        ifr := s.ifr &&& ~~~(1#5 <<< i) } : State).pushed (if s.haltBug then s.pc - 1#16 else s.pc)).setPc
          (0x0040#16 + BitVec.ofNat 16 (8 * i))).tick 20)

/-- Where the boundary of a step stops. An UNDEF IE or IF stops the check that reads it, IE before IF (10_state.md R44,
60_exceptions.md R246, R248, R249; log entry 6). An interrupt service stops where SP is UNDEF, and at the first byte of its
push that the bus refuses, with a BusFault and the byte before it written (60_exceptions.md R232, R239, R240). -/
def Obligations.BoundaryStops : Prop :=
  ∀ s : State, s.fault = none →
    (s.stopped = true → s.unset.ifr = true → step s = .fault (.undefinedRegisterFault .ifr s.pc s.bus)) ∧
    ((s.stopped = true → s.unset.ifr = false ∧ s.ifr.getLsbD 4 = true) → s.halted = true ∨ s.ime = true →
      (s.unset.ie = true → step s = .fault (.undefinedRegisterFault .ie s.pc s.bus)) ∧
      (s.unset.ie = false → s.unset.ifr = true → step s = .fault (.undefinedRegisterFault .ifr s.pc s.bus))) ∧
    (s.ime = true → s.unset.ie = false → s.unset.ifr = false → (s.stopped = true → s.ifr.getLsbD 4 = true) →
      pendingOf s.ie s.ifr ≠ 0#5 →
      (s.unset.sp = true → step s = .fault (.undefinedRegisterFault .sp s.pc s.bus)) ∧
      (s.unset.sp = false →
        (let v := if s.haltBug then s.pc - 1#16 else s.pc
         let hi := v.extractLsb' 8 8
         let lo := v.extractLsb' 0 8
         let u := s.storeByte (s.sp - 1#16) hi
         (onBus (s.sp - 1#16) = true → (s.bus.writeByte (s.sp - 1#16) hi).1 = false →
           step s = .fault (.busFault (.write (s.sp - 1#16) hi) s.pc (s.bus.writeByte (s.sp - 1#16) hi).2)) ∧
         (s.canWrite (s.sp - 1#16) hi = true →
           onBus (s.sp - 2#16) = true → (u.bus.writeByte (s.sp - 2#16) lo).1 = false →
           step s = .fault (.busFault (.write (s.sp - 2#16) lo) s.pc (u.bus.writeByte (s.sp - 2#16) lo).2)))))

/-- Stopped idle and wake: 4 cycles and no effect on the machine while IF[4] is 0; with IF[4] set the step goes on as from a
core that is not stopped (60_exceptions.md R248). The idle step also notes PC in `stepPc`, the model's own field for the
`pc_at_step_start` of R249 (log entry 11, DESIGN CHOICE), which R248 does not speak of. -/
def Obligations.StoppedCoreWaitsForJoypad : Prop :=
  ∀ s : State, s.fault = none → s.stopped = true → s.unset.ifr = false →
    (s.ifr.getLsbD 4 = false → step s = .next (({ s with stepPc := s.pc } : State).tick 4)) ∧
    (s.ifr.getLsbD 4 = true → step s = step { s with stopped := false })

/-- Halted idle and wake: 4 cycles and no effect on the machine while no source is requested; with one requested the step
goes on as from a core that is not halted, whatever ime is (60_exceptions.md R246). The idle step also notes PC in `stepPc`,
the model's own field for the `pc_at_step_start` of R249 (log entry 11, DESIGN CHOICE). -/
def Obligations.HaltedCoreWaitsForARequest : Prop :=
  ∀ s : State, s.fault = none → s.stopped = false → s.halted = true → s.unset.ie = false → s.unset.ifr = false →
    (pendingOf s.ie s.ifr = 0#5 → step s = .next (({ s with stepPc := s.pc } : State).tick 4)) ∧
    (pendingOf s.ie s.ifr ≠ 0#5 → step s = step { s with halted := false })

/-- What one instruction does to ime and ei_pending, for every instruction: DI clears both, RETI sets ime, EI leaves the
enable pending for one further instruction, and any other instruction commits a pending enable (60_exceptions.md R244,
47_system.md R223, R224, 46_control.md R210). -/
def Obligations.EnableIsDelayedByOneInstruction : Prop :=
  ∀ s t : State, s.Runs → step s = .next t →
    t.ime = (if s.byteAt s.pc = 0xF3#8 then false
      else if s.byteAt s.pc = 0xD9#8 then true else s.ime || s.eiPending) ∧
    t.eiPending = (decide (s.byteAt s.pc = 0xFB#8) && !s.eiPending)

/-- `requestInterrupt(i)` sets bit i of an IF that holds a value, and nothing else; an index outside 0..4 is refused
(60_exceptions.md R237). What it does to an IF that is UNDEF is log entry 7, and nothing is said of it here. -/
def Obligations.RequestSetsOneBit : Prop :=
  ∀ (s : State) (i : Nat),
    (i ≤ 4 → s.unset.ifr = false →
      ∃ t, requestInterrupt i s = some t ∧ t = { s with ifr := t.ifr } ∧ t.ifr.getLsbD i = true ∧
        ∀ j, j ≠ i → t.ifr.getLsbD j = s.ifr.getLsbD j) ∧
    (4 < i → requestInterrupt i s = none)

/-! ### Frames of every instruction -/

/-- IF and IE change only through a store, on every bus (20_memory.md R62; 10_state.md R42). On RAM_BUS every byte an
instruction does not store to reads as before, and nothing of the bus but its array changes (20_memory.md R74; log entry 1:
what another bus does to its other bytes on an access is its own). -/
def Obligations.MemoryFrame : Prop :=
  ∀ (i : Instr) (s t : State), exec i s = .next t →
    (ifAddr ∉ storesTo i s → t.ifr = s.ifr) ∧ (ieAddr ∉ storesTo i s → t.ie = s.ie) ∧
    (∀ r : RamBus, s.bus = .ram r →
      (∀ a, a ∉ storesTo i s → t.byteAt a = s.byteAt a) ∧ ∃ m, t.bus = .ram { r with mem := m })

/-- Every register an instruction does not name as a destination is unchanged: the seven general registers, SP and PC
(10_state.md R42). -/
def Obligations.RegisterFrame : Prop :=
  ∀ (i : Instr) (s t : State), exec i s = .next t →
    (∀ r, r ∉ destRegs i → t.reg r = s.reg r) ∧
    (writesSp i = false → t.sp = s.sp) ∧ (writesPc i = false → t.pc = s.pc)

/-- Every instruction does to each flag what its row of the opcode table says; an instruction that keeps all four leaves F
alone, any other leaves F's low nibble 0 (30_encoding.md R101, 10_state.md R24). -/
def Obligations.FlagFrame : Prop :=
  ∀ (i : Instr) (s t : State) (row : FlagRow), exec i s = .next t → i.descriptor.flags = some row →
    policyAllows row.z (flagZ s.f) (flagZ t.f) ∧ policyAllows row.n (flagN s.f) (flagN t.f) ∧
    policyAllows row.h (flagH s.f) (flagH t.f) ∧ policyAllows row.c (flagC s.f) (flagC t.f) ∧
    (if row = ⟨.keep, .keep, .keep, .keep⟩ then t.f = s.f else t.f &&& 0x0F#8 = 0#8)

/-- Every instruction adds the count of its row of the opcode table: the one count, or for a conditional instruction one of
its two (30_encoding.md R101, 70_reset_and_hazards.md R283). -/
def Obligations.CyclesAreThoseOfTheTable : Prop :=
  ∀ (i : Instr) (s t : State), i.wellFormed = true → exec i s = .next t →
    ∃ n, (i.descriptor.cycles = some n ∨ i.descriptor.cyclesNotTaken = some n) ∧
      t.cycles = s.cycles + BitVec.ofNat 64 n

/-- The cells of the boundary, the latch and the parameters: only DI, EI and RETI write ime and ei_pending, only HALT writes
halted and halt_bug, only STOP writes stopped; no instruction writes the latch, a parameter or `pc_at_step_start`, nor
puts another bus or other permissions in place (10_state.md R31 to R37). -/
def Obligations.ControlFrame : Prop :=
  ∀ (i : Instr) (s t : State), exec i s = .next t →
    (i ≠ .di → i ≠ .ei → i ≠ .reti → t.ime = s.ime ∧ t.eiPending = s.eiPending) ∧
    (i ≠ .halt → t.halted = s.halted ∧ t.haltBug = s.haltBug) ∧
    ((∀ x, i ≠ .stop x) → t.stopped = s.stopped) ∧
    t.fault = s.fault ∧ t.stepPc = s.stepPc ∧ s.bus.sameMap t.bus ∧
    t.haltBugPolicy = s.haltBugPolicy ∧ t.stopPolicy = s.stopPolicy

/-- No step makes a cell UNDEF again: a cell that holds a value keeps holding one (10_state.md R44). -/
def Obligations.CellsStayDefined : Prop :=
  ∀ s t : State, step s = .next t →
    (∀ r, s.unset.reg r = false → t.unset.reg r = false) ∧ (s.unset.f = false → t.unset.f = false) ∧
    (s.unset.sp = false → t.unset.sp = false) ∧ (s.unset.ifr = false → t.unset.ifr = false) ∧
    (s.unset.ie = false → t.unset.ie = false)

/-! ### Where an instruction stops -/

/-- The accesses of an instruction (`accesses`: the cells it reads, and its data reads and stores with the bytes stored) are
made in its order, each once (20_memory.md R62 to R64): where they all succeed, the instruction completes, with the bus, IF
and IE as they leave them. Only an illegal opcode, and HALT and STOP under their fault parameters, stop all the same. -/
def Obligations.AccessesAreMadeInOrder : Prop :=
  ∀ (i : Instr) (s u : State), s.walk (accesses i s) = .ok u → isIllegal i = false →
    (i = .halt → s.ime = true ∨ pendingOf s.ie s.ifr = 0#5 ∨ s.haltBugPolicy = .reproduce) →
    ((∃ x, i = .stop x) → s.stopPolicy = .waitJoypad) →
    ∃ t, exec i s = .next t ∧ t.bus = u.bus ∧ t.ifr = u.ifr ∧ t.ie = u.ie

/-- On a bus that refuses a read, an instruction stops there: a BusFault that names the address, the accesses before it made
and none after it (20_memory.md R51, R54, R62, 60_exceptions.md R232, R235). -/
def Obligations.RefusedReadFaults : Prop :=
  ∀ (i : Instr) (s u : State) (before after : List Access) (a : Word),
    accesses i s = before ++ .read a :: after → s.walk before = .ok u →
    onBus a = true → (u.bus.readByte a).1 = none →
    exec i s = .fault (.busFault (.read a) s.stepPc (u.bus.readByte a).2)

/-- On a bus that refuses a write, an instruction stops there: a BusFault that names the address and the byte, the accesses
before it made and none after it (20_memory.md R52, R55, R62, 60_exceptions.md R232, R235). -/
def Obligations.RefusedWriteFaults : Prop :=
  ∀ (i : Instr) (s u : State) (before after : List Access) (a : Word) (v : Byte),
    accesses i s = before ++ .write a v :: after → s.walk before = .ok u →
    onBus a = true → (u.bus.writeByte a v).1 = false →
    exec i s = .fault (.busFault (.write a v) s.stepPc (u.bus.writeByte a v).2)

/-- After a `power_on` reset, a read of a cell that nothing has written stops the instruction with a fault that names the
cell: for every instruction, every cell it reads, and IF and IE where it reads their addresses (10_state.md R44,
20_memory.md R53, 60_exceptions.md R233). The names of the cells and the order of two reads are those of log entry 6. -/
def Obligations.UndefinedReadFaults : Prop :=
  ∀ (i : Instr) (s u : State) (before after : List Access) (x : Access),
    accesses i s = before ++ x :: after → s.walk before = .ok u →
    (∀ q, x = .cell q → u.unset.cell q = true →
      exec i s = .fault (.undefinedRegisterFault q s.stepPc u.bus)) ∧
    (x = .read ifAddr → u.unset.ifr = true → exec i s = .fault (.undefinedRegisterFault .ifr s.stepPc u.bus)) ∧
    (x = .read ieAddr → u.unset.ie = true → exec i s = .fault (.undefinedRegisterFault .ie s.stepPc u.bus))

/-! ### The invariant -/

/-- The invariant holds after every reset. -/
def Obligations.ResetMeetsTheInvariant : Prop :=
  ∀ (p : ResetProfile) (hb : HaltBugPolicy) (sp : StopPolicy) (b : Bus), b.wf = true → (State.resetWith p hb sp b).Inv

/-- Every step that answers a next state keeps the invariant, from any state that meets it. -/
def Obligations.StepKeepsTheInvariant : Prop :=
  ∀ s t : State, s.Inv → step s = .next t → t.Inv

/-- Every state the whole system reaches, with interrupt requests and bus changes between the steps, meets the invariant. -/
def Obligations.ReachableStatesMeetTheInvariant : Prop :=
  ∀ s : State, Reachable s → s.Inv

/-- The reset values of 10_state.md R43 that the spec gives, for both profiles; reset leaves the bus as it was
(70_reset_and_hazards.md R270). The values are the spec's; two readings under them are the model's: that the byte at 0x014D,
which F depends on, is what `Bus.peek` shows with no access of the bus (log entries 1, DESIGN CHOICE, and 4, DEDUCED), and
that the UNDEF cells of R43, R44 are the marks of `unset` (log entry 5, DESIGN CHOICE). -/
def Obligations.ResetValues : Prop :=
  ∀ (hb : HaltBugPolicy) (sp : StopPolicy) (b : Bus),
    (let s := State.resetWith .postBootDmg hb sp b
     s.a = 0x01#8 ∧ s.f = (if b.peek 0x014D#16 = 0x00#8 then 0x80#8 else 0xB0#8) ∧ s.pair .bc = 0x0013#16 ∧
     s.pair .de = 0x00D8#16 ∧ s.pair .hl = 0x014D#16 ∧ s.sp = 0xFFFE#16 ∧ s.pc = 0x0100#16 ∧
     s.ime = false ∧ s.eiPending = false ∧ s.halted = false ∧ s.haltBug = false ∧ s.stopped = false ∧
     s.cycles = 0#64 ∧ s.fault = none ∧ s.ifr = 0b00001#5 ∧ s.ie = 0x00#8 ∧ s.unset = Unset.none ∧
     s.bus = b ∧ s.haltBugPolicy = hb ∧ s.stopPolicy = sp) ∧
    (let s := State.resetWith .powerOn hb sp b
     s.unset = Unset.all ∧ s.pc = 0x0000#16 ∧ s.ime = false ∧ s.eiPending = false ∧ s.halted = false ∧
     s.haltBug = false ∧ s.stopped = false ∧ s.cycles = 0#64 ∧ s.fault = none ∧
     s.bus = b ∧ s.haltBugPolicy = hb ∧ s.stopPolicy = sp)

/-! ### Registers and memory -/

/-- The pairs are read with the first-named register as the high byte (10_state.md R21). A write of v to a pair puts v[15:8]
in the high register and v[7:0] in the low one; the low byte of AF goes to F with its low nibble cleared (R22). The pair then
reads back as it was written. -/
def Obligations.PairWrite : Prop :=
  ∀ (s : State) (v : Word),
    (s.pair .bc = s.b ++ s.c ∧ s.pair .de = s.d ++ s.e ∧ s.pair .hl = s.h ++ s.l ∧
      s.pair .af = s.a ++ (s.f &&& 0xF0#8)) ∧
    ((s.setPair .bc v).b = v.extractLsb' 8 8 ∧ (s.setPair .bc v).c = v.extractLsb' 0 8) ∧
    ((s.setPair .de v).d = v.extractLsb' 8 8 ∧ (s.setPair .de v).e = v.extractLsb' 0 8) ∧
    ((s.setPair .hl v).h = v.extractLsb' 8 8 ∧ (s.setPair .hl v).l = v.extractLsb' 0 8) ∧
    ((s.setPair .af v).a = v.extractLsb' 8 8 ∧ (s.setPair .af v).f = v.extractLsb' 0 8 &&& 0xF0#8) ∧
    (s.setPair .bc v).pair .bc = v ∧ (s.setPair .de v).pair .de = v ∧ (s.setPair .hl v).pair .hl = v ∧
    (s.setPair .af v).pair .af = v &&& 0xFFF0#16

/-- On RAM_BUS a CPU write that succeeds reads back: whole on the bus and in IE, its low five bits under three ones in IF;
every other address reads as before (20_memory.md R54, R55, R74; log entry 1). -/
def Obligations.WriteReadsBack : Prop :=
  ∀ (s t : State) (r : RamBus) (a b : Word) (v : Byte), s.bus = .ram r → r.mem.wf = true → memWrite8 a v s = .ok () t →
    (a ≠ ifAddr → t.byteAt a = v) ∧ (a = ifAddr → t.byteAt a = 0xE0#8 ||| (v &&& 0x1F#8)) ∧
    (b ≠ a → t.byteAt b = s.byteAt b)

/-! ### 8-bit loads -/

/-- LD r,r', LD r,(HL), LD (HL),r, LD r,d8 and LD (HL),d8 for all registers r, r' (41_load8.md R120 to R124). -/
def Obligations.LoadByte : Prop :=
  ∀ (s : State) (r : Reg8) (n : Byte),
    (∀ q, s.unset.reg q = false → exec (.ld (.reg r) (.reg q)) s = .next ((s.setReg r (s.reg q)).tick 4)) ∧
    (s.unset.pair .hl = false → s.canRead (s.pair .hl) = true →
      exec (.ld (.reg r) .indHl) s =
        .next (((s.afterRead (s.pair .hl)).setReg r (s.byteAt (s.pair .hl))).tick 8)) ∧
    (s.unset.reg r = false → s.unset.pair .hl = false → s.canWrite (s.pair .hl) (s.reg r) = true →
      exec (.ld .indHl (.reg r)) s = .next ((s.storeByte (s.pair .hl) (s.reg r)).tick 8)) ∧
    exec (.ldImm (.reg r) n) s = .next ((s.setReg r n).tick 8) ∧
    (s.unset.pair .hl = false → s.canWrite (s.pair .hl) n = true →
      exec (.ldIndHlD8 n) s = .next ((s.storeByte (s.pair .hl) n).tick 12))

/-- The loads of A from (BC), (DE), (HL+), (HL-), (a16), (0xFF00+a8) and (0xFF00+C) (41_load8.md R125, R126, R129, R131, R133,
R135, R136). -/
def Obligations.LoadAccumulator : Prop :=
  ∀ s : State,
    (s.unset.pair .bc = false → s.canRead (s.pair .bc) = true →
      exec .ldAIndBc s = .next (((s.afterRead (s.pair .bc)).setReg .a (s.byteAt (s.pair .bc))).tick 8)) ∧
    (s.unset.pair .de = false → s.canRead (s.pair .de) = true →
      exec .ldAIndDe s = .next (((s.afterRead (s.pair .de)).setReg .a (s.byteAt (s.pair .de))).tick 8)) ∧
    (s.unset.pair .hl = false → s.canRead (s.pair .hl) = true →
      (let t := (s.afterRead (s.pair .hl)).setReg .a (s.byteAt (s.pair .hl))
       exec .ldAIndHlInc s = .next ((t.setPair .hl (s.pair .hl + 1#16)).tick 8) ∧
       exec .ldAIndHlDec s = .next ((t.setPair .hl (s.pair .hl - 1#16)).tick 8))) ∧
    (∀ a, s.canRead a = true →
      exec (.ldAIndA16 a) s = .next (((s.afterRead a).setReg .a (s.byteAt a)).tick 16)) ∧
    (∀ n : Byte,
      (let a := 0xFF00#16 + n.zeroExtend 16
       s.canRead a = true → exec (.ldhAIndA8 n) s = .next (((s.afterRead a).setReg .a (s.byteAt a)).tick 12))) ∧
    (s.unset.c = false →
      (let a := 0xFF00#16 + s.c.zeroExtend 16
       s.canRead a = true → exec .ldhAIndC s = .next (((s.afterRead a).setReg .a (s.byteAt a)).tick 8)))

/-- The stores of A to (BC), (DE), (HL+), (HL-), (a16), (0xFF00+a8) and (0xFF00+C) (41_load8.md R127, R128, R130, R132, R134,
R137, R138). -/
def Obligations.StoreAccumulator : Prop :=
  ∀ s : State, s.unset.a = false →
    (s.unset.pair .bc = false → s.canWrite (s.pair .bc) s.a = true →
      exec .ldIndBcA s = .next ((s.storeByte (s.pair .bc) s.a).tick 8)) ∧
    (s.unset.pair .de = false → s.canWrite (s.pair .de) s.a = true →
      exec .ldIndDeA s = .next ((s.storeByte (s.pair .de) s.a).tick 8)) ∧
    (s.unset.pair .hl = false → s.canWrite (s.pair .hl) s.a = true →
      exec .ldIndHlIncA s = .next (((s.storeByte (s.pair .hl) s.a).setPair .hl (s.pair .hl + 1#16)).tick 8) ∧
      exec .ldIndHlDecA s = .next (((s.storeByte (s.pair .hl) s.a).setPair .hl (s.pair .hl - 1#16)).tick 8)) ∧
    (∀ a, s.canWrite a s.a = true → exec (.ldIndA16A a) s = .next ((s.storeByte a s.a).tick 16)) ∧
    (∀ n : Byte, s.canWrite (0xFF00#16 + n.zeroExtend 16) s.a = true →
      exec (.ldhIndA8A n) s = .next ((s.storeByte (0xFF00#16 + n.zeroExtend 16) s.a).tick 12)) ∧
    (s.unset.c = false → s.canWrite (0xFF00#16 + s.c.zeroExtend 16) s.a = true →
      exec .ldhIndCA s = .next ((s.storeByte (0xFF00#16 + s.c.zeroExtend 16) s.a).tick 8))

/-! ### 16-bit loads and the stack -/

/-- LD rr,d16 for BC, DE, HL and SP, LD SP,HL, and LD (a16),SP, which stores the low byte of SP at a and the high byte at
a + 1, wrapping (42_load16_stack.md R142 to R144). -/
def Obligations.WordLoads : Prop :=
  ∀ (s : State) (n : Word),
    exec (.ldBcD16 n) s = .next (((s.setReg .b (n.extractLsb' 8 8)).setReg .c (n.extractLsb' 0 8)).tick 12) ∧
    exec (.ldDeD16 n) s = .next (((s.setReg .d (n.extractLsb' 8 8)).setReg .e (n.extractLsb' 0 8)).tick 12) ∧
    exec (.ldHlD16 n) s = .next (((s.setReg .h (n.extractLsb' 8 8)).setReg .l (n.extractLsb' 0 8)).tick 12) ∧
    exec (.ldSpD16 n) s = .next ((s.setSp n).tick 12) ∧
    (s.unset.pair .hl = false → exec .ldSpHl s = .next ((s.setSp (s.pair .hl)).tick 8)) ∧
    (s.unset.sp = false →
      (let lo := s.sp.extractLsb' 0 8
       let hi := s.sp.extractLsb' 8 8
       s.canWrite n lo = true → (s.storeByte n lo).canWrite (n + 1#16) hi = true →
       exec (.ldIndA16Sp n) s = .next (((s.storeByte n lo).storeByte (n + 1#16) hi).tick 20)))

/-- PUSH rr: the high byte at SP − 1, then the low byte at SP − 2, SP two lower (42_load16_stack.md R140, R145). POP rr: the
low register from SP, then the high register from SP + 1, SP two higher; POP AF writes F with its low nibble cleared (R141,
R146, R147). -/
def Obligations.PushAndPopPair : Prop :=
  ∀ s : State, s.unset.sp = false →
    (∀ p : Rp2, s.unset.pair p.reg16 = false →
      (let hi := (s.pair p.reg16).extractLsb' 8 8
       let lo := (s.pair p.reg16).extractLsb' 0 8
       let u := s.storeByte (s.sp - 1#16) hi
       s.canWrite (s.sp - 1#16) hi = true → u.canWrite (s.sp - 2#16) lo = true →
       exec (.push p) s = .next (((u.storeByte (s.sp - 2#16) lo).setSp (s.sp - 2#16)).tick 16))) ∧
    (s.canRead s.sp = true → (s.afterRead s.sp).canRead (s.sp + 1#16) = true →
      (let lo := s.byteAt s.sp
       let hi := (s.afterRead s.sp).byteAt (s.sp + 1#16)
       let u := ((s.afterRead s.sp).afterRead (s.sp + 1#16)).setSp (s.sp + 2#16)
       exec .popBc s = .next (((u.setReg .b hi).setReg .c lo).tick 12) ∧
       exec .popDe s = .next (((u.setReg .d hi).setReg .e lo).tick 12) ∧
       exec .popHl s = .next (((u.setReg .h hi).setReg .l lo).tick 12) ∧
       exec .popAf s = .next (((u.setReg .a hi).setF lo).tick 12)))

/-- On RAM_BUS what was pushed is popped: PUSH of one pair and POP of another copies it and restores SP, AF losing the low
nibble of F, where the stack slots are bytes of the bus or IE (42_load16_stack.md R140, R141, 10_state.md R24). That the
bytes read back rests on RAM_BUS (20_memory.md R54, R55, R68, R74; log entry 1: another bus need not keep them), and that POP
follows PUSH on the state PUSH left rests on nothing acting between the two (log entry 15). -/
def Obligations.PopReturnsWhatWasPushed : Prop :=
  ∀ (s : State) (r : RamBus) (p q : Rp2), s.bus = .ram r → r.mem.wf = true → s.unset.pair p.reg16 = false →
    s.canPush (s.pair p.reg16) = true → s.canRead (s.sp - 1#16) = true → s.canRead (s.sp - 2#16) = true →
    s.sp - 1#16 ≠ ifAddr → s.sp - 2#16 ≠ ifAddr →
    ∃ t u, exec (.push p) s = .next t ∧ exec (.pop q) t = .next u ∧ u.sp = s.sp ∧
      u.pair q.reg16 = (match q with
        | .af => s.pair p.reg16 &&& 0xFFF0#16
        | .bc | .de | .hl => s.pair p.reg16)

/-- On RAM_BUS a call and the return from it come back to the instruction after the call with SP restored (46_control.md R206,
R208). That the address reads back rests on RAM_BUS (20_memory.md R54, R55, R68, R74; log entry 1), that RET runs on the
state CALL left rests on nothing acting between the two (log entry 15), and that `s.pc` is the address past the call rests on
log entry 10. -/
def Obligations.ReturnComesBackFromCall : Prop :=
  ∀ (s : State) (r : RamBus) (a : Word), s.bus = .ram r → r.mem.wf = true → s.canPush s.pc = true →
    s.canRead (s.sp - 1#16) = true → s.canRead (s.sp - 2#16) = true →
    s.sp - 1#16 ≠ ifAddr → s.sp - 2#16 ≠ ifAddr →
    ∃ t u, exec (.callA16 a) s = .next t ∧ t.pc = a ∧ exec .ret t = .next u ∧ u.pc = s.pc ∧ u.sp = s.sp

/-- LD HL,SP+e8 and ADD SP,e8: the sum with the sign-extended byte; H and C are the carries of the unsigned addition of the
byte to the low byte of SP; Z and N clear (42_load16_stack.md R148, 44_alu16.md R173). -/
def Obligations.StackPointerDisplacement : Prop :=
  ∀ (s : State) (e : Byte), s.unset.sp = false →
    (let r := s.sp + e.signExtend 16
     let f := packFlags false false (decide (16 ≤ s.sp.toNat % 16 + e.toNat % 16))
       (decide (256 ≤ s.sp.toNat % 256 + e.toNat))
     exec (.ldHlSpE8 e) s = .next (((s.setPair .hl r).setF f).tick 12) ∧
     exec (.addSpE8 e) s = .next (((s.setSp r).setF f).tick 16))

/-! ### 8-bit arithmetic and logic -/

/-- ADD and ADC on every operand form: the sum modulo 256, Z from it, N clear, H and C the carries out of bits 3 and 7
(43_alu8.md R150, R151, R152). -/
def Obligations.AddByte : Prop :=
  ∀ (s : State) (src : Src8), s.srcReady src = true → s.unset.a = false →
    (let x := s.a.toNat + (s.src src).toNat
     exec (.alu .add src) s =
       .next ((((s.afterSrc src).setReg .a (s.a + s.src src)).setF
         (packFlags (decide (s.a + s.src src = 0#8)) false
           (decide (16 ≤ s.a.toNat % 16 + (s.src src).toNat % 16)) (decide (256 ≤ x)))).tick (srcCycles src))) ∧
    (s.unset.f = false →
      (let c := s.f.getLsbD 4
       let r := s.a + s.src src + (if c then 1#8 else 0#8)
       exec (.alu .adc src) s =
         .next ((((s.afterSrc src).setReg .a r).setF
           (packFlags (decide (r = 0#8)) false
             (decide (16 ≤ s.a.toNat % 16 + (s.src src).toNat % 16 + c.toNat))
             (decide (256 ≤ s.a.toNat + (s.src src).toNat + c.toNat)))).tick (srcCycles src))))

/-- SUB, SBC and CP on every operand form: the difference modulo 256, Z from it, N set, H and C the borrows into bits 3 and
7; CP writes no register (43_alu8.md R150, R153, R154, R158). -/
def Obligations.SubtractByte : Prop :=
  ∀ (s : State) (src : Src8), s.srcReady src = true → s.unset.a = false →
    (let r := s.a - s.src src
     let f := packFlags (decide (r = 0#8)) true (decide (s.a.toNat % 16 < (s.src src).toNat % 16))
       (decide (s.a.toNat < (s.src src).toNat))
     exec (.alu .sub src) s = .next ((((s.afterSrc src).setReg .a r).setF f).tick (srcCycles src)) ∧
     exec (.alu .cp src) s = .next (((s.afterSrc src).setF f).tick (srcCycles src))) ∧
    (s.unset.f = false →
      (let c := s.f.getLsbD 4
       let r := s.a - s.src src - (if c then 1#8 else 0#8)
       exec (.alu .sbc src) s =
         .next ((((s.afterSrc src).setReg .a r).setF
           (packFlags (decide (r = 0#8)) true (decide (s.a.toNat % 16 < (s.src src).toNat % 16 + c.toNat))
             (decide (s.a.toNat < (s.src src).toNat + c.toNat)))).tick (srcCycles src))))

/-- AND, XOR and OR on every operand form: Z from the result, H set by AND alone, N and C clear (43_alu8.md R155 to R157). -/
def Obligations.LogicByte : Prop :=
  ∀ (s : State) (src : Src8), s.srcReady src = true → s.unset.a = false →
    (let r := s.a &&& s.src src
     exec (.alu .and src) s =
       .next ((((s.afterSrc src).setReg .a r).setF (packFlags (decide (r = 0#8)) false true false)).tick (srcCycles src))) ∧
    (let r := s.a ^^^ s.src src
     exec (.alu .xor src) s =
       .next ((((s.afterSrc src).setReg .a r).setF (packFlags (decide (r = 0#8)) false false false)).tick (srcCycles src))) ∧
    (let r := s.a ||| s.src src
     exec (.alu .or src) s =
       .next ((((s.afterSrc src).setReg .a r).setF (packFlags (decide (r = 0#8)) false false false)).tick (srcCycles src)))

/-- INC and DEC of a register or of the byte at HL: Z and H from the result, C kept (43_alu8.md R159 to R162). -/
def Obligations.IncrementDecrementByte : Prop :=
  ∀ (s : State) (o : Opnd8), s.opndReady o = true → s.unset.f = false →
    (let n := cbCycles o 4 12
     let up := s.opnd o + 1#8
     let down := s.opnd o - 1#8
     let u := s.afterOpnd o
     (u.opndStorable o up = true → exec (.inc o) s = .next (((u.setOpnd o up).setF
       (packFlags (decide (up = 0#8)) false (decide (up &&& 0x0F#8 = 0x00#8)) (s.f.getLsbD 4))).tick n)) ∧
     (u.opndStorable o down = true → exec (.dec o) s = .next (((u.setOpnd o down).setF
       (packFlags (decide (down = 0#8)) true (decide (down &&& 0x0F#8 = 0x0F#8)) (s.f.getLsbD 4))).tick n)))

/-- DAA writes A and the flags by the adjustment of A, N, H and C: Z from the result, N kept, H clear (43_alu8.md R163). -/
def Obligations.DecimalAdjust : Prop :=
  ∀ s : State, s.unset.a = false → s.unset.f = false →
    (let n := s.f.getLsbD 6
     let h := s.f.getLsbD 5
     let c := s.f.getLsbD 4
     let low := h || (!n && decide (9 < s.a.toNat % 16))
     let high := c || (!n && decide (0x99 < s.a.toNat))
     let d := (if low then 0x06#8 else 0x00#8) + (if high then 0x60#8 else 0x00#8)
     let r := if n then s.a - d else s.a + d
     exec .daa s = .next (((s.setReg .a r).setF (packFlags (decide (r = 0#8)) n false high)).tick 4))

/-- DAA does what it is for: after ADD, ADC, SUB or SBC of two bytes of two decimal digits each, it leaves the decimal digits
of the sum or difference modulo 100, and C says that 100 was reached or borrowed (43_alu8.md R163, on the results of R151 to
R154; the carry-in c is false for ADD and SUB). -/
def Obligations.DecimalAdjustGivesDecimalDigits : Prop :=
  ∀ (x y : Nat) (c : Bool), x < 100 → y < 100 →
    (let sum := x + y + c.toNat
     let r := add8 (bcd x) (bcd y) c
     daa8 r.value r.n r.h r.c = (bcd (sum % 100), decide (100 ≤ sum))) ∧
    (let diff := x + 100 - y - c.toNat
     let r := sub8 (bcd x) (bcd y) c
     daa8 r.value r.n r.h r.c = (bcd (diff % 100), decide (diff < 100)))

/-- CPL complements A and sets N and H; SCF and CCF set and flip C and clear N and H; the other flags are kept (43_alu8.md
R164 to R166). -/
def Obligations.AccumulatorAndCarry : Prop :=
  ∀ s : State, s.unset.f = false →
    (s.unset.a = false → exec .cpl s =
      .next (((s.setReg .a (~~~s.a)).setF (packFlags (s.f.getLsbD 7) true true (s.f.getLsbD 4))).tick 4)) ∧
    exec .scf s = .next ((s.setF (packFlags (s.f.getLsbD 7) false false true)).tick 4) ∧
    exec .ccf s = .next ((s.setF (packFlags (s.f.getLsbD 7) false false (!s.f.getLsbD 4))).tick 4)

/-! ### 16-bit arithmetic -/

/-- INC rr and DEC rr wrap modulo 2^16 and touch no flag (44_alu16.md R170, R171). ADD HL,rr: the sum modulo 2^16, Z kept,
N clear, H and C the carries out of bits 11 and 15 (R172). -/
def Obligations.WordArithmetic : Prop :=
  ∀ (s : State) (p : Rp), s.unset.pair p.reg16 = false →
    exec (.incRp p) s = .next ((s.setPair p.reg16 (s.pair p.reg16 + 1#16)).tick 8) ∧
    exec (.decRp p) s = .next ((s.setPair p.reg16 (s.pair p.reg16 - 1#16)).tick 8) ∧
    (s.unset.pair .hl = false → s.unset.f = false →
      (let x := s.pair .hl
       let y := s.pair p.reg16
       exec (.addHl p) s =
         .next (((s.setPair .hl (x + y)).setF
           (packFlags (s.f.getLsbD 7) false (decide (4096 ≤ x.toNat % 4096 + y.toNat % 4096))
             (decide (65536 ≤ x.toNat + y.toNat)))).tick 8)))

/-! ### Rotates, shifts, bits -/

/-- RLCA, RRCA, RLA and RRA: A rotated, alone or through C, C the bit that left, Z, N and H clear (45_rotate_shift_bit.md R180
to R183). -/
def Obligations.RotateAccumulator : Prop :=
  ∀ s : State, s.unset.a = false →
    exec .rlca s = .next (((s.setReg .a (s.a.rotateLeft 1)).setF
      (packFlags false false false (s.a.getLsbD 7))).tick 4) ∧
    exec .rrca s = .next (((s.setReg .a (s.a.rotateRight 1)).setF
      (packFlags false false false (s.a.getLsbD 0))).tick 4) ∧
    (s.unset.f = false →
      exec .rla s = .next (((s.setReg .a ((s.a <<< 1) ||| (if s.f.getLsbD 4 then 0x01#8 else 0x00#8))).setF
        (packFlags false false false (s.a.getLsbD 7))).tick 4) ∧
      exec .rra s = .next (((s.setReg .a ((s.a >>> 1) ||| (if s.f.getLsbD 4 then 0x80#8 else 0x00#8))).setF
        (packFlags false false false (s.a.getLsbD 0))).tick 4))

/-- The eight rotates and shifts of the CB table on every operand: the result and the bit that goes to C, Z from the result, N
and H clear (45_rotate_shift_bit.md R184 to R192). -/
def Obligations.RotateAndShift : Prop :=
  ∀ (s : State) (op : RotOp) (o : Opnd8), s.opndReady o = true →
    (op = .rl ∨ op = .rr → s.unset.f = false) →
    (let v := s.opnd o
     let r : Byte := match op with
       | .rlc => v.rotateLeft 1
       | .rrc => v.rotateRight 1
       | .rl => (v <<< 1) ||| (if s.f.getLsbD 4 then 0x01#8 else 0x00#8)
       | .rr => (v >>> 1) ||| (if s.f.getLsbD 4 then 0x80#8 else 0x00#8)
       | .sla => v <<< 1
       | .sra => v.sshiftRight 1
       | .swap => v.rotateLeft 4
       | .srl => v >>> 1
     let c : Bool := match op with
       | .rlc | .rl | .sla => v.getLsbD 7
       | .rrc | .rr | .sra | .srl => v.getLsbD 0
       | .swap => false
     (s.afterOpnd o).opndStorable o r = true →
     exec (.rot op o) s =
       .next ((((s.afterOpnd o).setOpnd o r).setF (packFlags (decide (r = 0#8)) false false c)).tick
         (cbCycles o 8 16)))

/-- BIT b: Z is the complement of the bit, N clear, H set, C kept, and nothing is written (45_rotate_shift_bit.md R193). -/
def Obligations.TestBit : Prop :=
  ∀ (s : State) (y : Field3) (o : Opnd8), s.opndReady o = true → s.unset.f = false →
    exec (.bit y o) s =
      .next (((s.afterOpnd o).setF (packFlags (!(s.opnd o).getLsbD (bitNumber y)) false true (s.f.getLsbD 4))).tick
        (cbCycles o 8 12))

/-- RES b and SET b: the bit becomes 0 or 1, every other bit of the operand and every flag stays (45_rotate_shift_bit.md R194,
R195). -/
def Obligations.ClearAndSetBit : Prop :=
  ∀ (s : State) (y : Field3) (o : Opnd8), s.opndReady o = true →
    ∃ zero one : Byte,
      (∀ j < 8, zero.getLsbD j = (decide (j ≠ bitNumber y) && (s.opnd o).getLsbD j) ∧
        one.getLsbD j = (decide (j = bitNumber y) || (s.opnd o).getLsbD j)) ∧
      (let u := s.afterOpnd o
       (u.opndStorable o zero = true → exec (.res y o) s = .next ((u.setOpnd o zero).tick (cbCycles o 8 16))) ∧
       (u.opndStorable o one = true → exec (.set y o) s = .next ((u.setOpnd o one).tick (cbCycles o 8 16))))

/-! ### Control flow -/

/-- JP, JP (HL), JP cc, JR and JR cc: PC goes to the target, or stays past the instruction; the taken and not-taken counts
(46_control.md R200 to R205). -/
def Obligations.Jumps : Prop :=
  ∀ (s : State) (k : Cond) (a : Word) (e : Byte),
    exec (.jpA16 a) s = .next ((s.setPc a).tick 16) ∧
    exec (.jrE8 e) s = .next ((s.setPc (s.pc + e.signExtend 16)).tick 12) ∧
    (s.unset.pair .hl = false → exec .jpHl s = .next ((s.setPc (s.pair .hl)).tick 4)) ∧
    (s.unset.f = false → condHolds k s.f = true →
      exec (.jpCc k a) s = .next ((s.setPc a).tick 16) ∧
      exec (.jrCc k e) s = .next ((s.setPc (s.pc + e.signExtend 16)).tick 12)) ∧
    (s.unset.f = false → condHolds k s.f = false →
      exec (.jpCc k a) s = .next (s.tick 12) ∧ exec (.jrCc k e) s = .next (s.tick 8))

/-- CALL, CALL cc and RST: the address past the instruction is pushed and PC goes to the target (46_control.md R206, R207,
R211). -/
def Obligations.Calls : Prop :=
  ∀ (s : State) (k : Cond) (a : Word) (y : Field3),
    (s.canPush s.pc = true →
      exec (.callA16 a) s = .next (((s.pushed s.pc).setPc a).tick 24) ∧
      exec (.rst y) s = .next (((s.pushed s.pc).setPc (BitVec.ofNat 16 (8 * bitNumber y))).tick 16) ∧
      (s.unset.f = false → condHolds k s.f = true →
        exec (.callCc k a) s = .next (((s.pushed s.pc).setPc a).tick 24))) ∧
    (s.unset.f = false → condHolds k s.f = false → exec (.callCc k a) s = .next (s.tick 12))

/-- RET, RET cc and RETI: PC is the word at SP, low byte first, SP two higher; RETI sets ime at once (46_control.md R208 to
R210). -/
def Obligations.Returns : Prop :=
  ∀ (s : State) (k : Cond),
    (s.canPop = true →
      (let u := s.afterRead s.sp
       let target := word16 (u.byteAt (s.sp + 1#16)) (s.byteAt s.sp)
       let t := ((u.afterRead (s.sp + 1#16)).setSp (s.sp + 2#16)).setPc target
       exec .ret s = .next (t.tick 16) ∧
       exec .reti s = .next (({ t with ime := true, eiPending := false } : State).tick 16) ∧
       (s.unset.f = false → condHolds k s.f = true → exec (.retCc k) s = .next (t.tick 20)))) ∧
    (s.unset.f = false → condHolds k s.f = false → exec (.retCc k) s = .next (s.tick 8))

/-! ### System -/

/-- NOP does nothing; DI clears ime and a pending enable; EI leaves the enable pending (47_system.md R220, R223, R224). -/
def Obligations.NopDiEi : Prop :=
  ∀ s : State,
    exec .nop s = .next (s.tick 4) ∧
    exec .di s = .next (({ s with ime := false, eiPending := false } : State).tick 4) ∧
    exec .ei s = .next (({ s with eiPending := true } : State).tick 4)

/-- HALT: it halts when ime is set or no source is requested; otherwise the halt quirk, or the fault the parameter chooses
(47_system.md R221). STOP: it stops the core under `wait_joypad` and faults under `fault`; its second byte is ignored
(R222). -/
def Obligations.HaltAndStop : Prop :=
  ∀ (s : State) (x : Byte),
    (s.ime = true → exec .halt s = .next (({ s with halted := true } : State).tick 4)) ∧
    (s.ime = false → s.unset.ie = false → s.unset.ifr = false →
      (pendingOf s.ie s.ifr = 0#5 → exec .halt s = .next (({ s with halted := true } : State).tick 4)) ∧
      (pendingOf s.ie s.ifr ≠ 0#5 → s.haltBugPolicy = .reproduce →
        exec .halt s = .next (({ s with haltBug := true } : State).tick 4)) ∧
      (pendingOf s.ie s.ifr ≠ 0#5 → s.haltBugPolicy = .fault → exec .halt s = .fault (.haltBugFault s.stepPc s.bus))) ∧
    (s.stopPolicy = .waitJoypad → exec (.stop x) s = .next (({ s with stopped := true } : State).tick 4)) ∧
    (s.stopPolicy = .fault → exec (.stop x) s = .fault (.stopFault s.stepPc s.bus))

/-- The CB byte selects the second table: with the second byte op2 it means the instruction of row op2, and where that
instruction's operand can be read and stored and F holds a value it completes (30_encoding.md R96, R98). -/
def Obligations.CbByteSelectsTheSecondTable : Prop :=
  ∀ (s : State) (op2 : Byte),
    exec (.prefixCb op2) s = exec (decodeCb op2) s ∧
    (let o := opnd8 (field3 op2 0)
     s.opndReady o = true → (∀ v, (s.afterOpnd o).opndStorable o v = true) → s.unset.f = false →
      ∃ t, exec (.prefixCb op2) s = .next t ∧ t.pc = s.pc ∧ t.sp = s.sp)
end

