-- ==== Sys2Proof/Laws/State.lean ====
section
/-! SUPPORT. One lemma per field per named update of State: what the update leaves, and what it writes. -/

namespace Sys2Proof.Machine

variable (s : State)

/-! ### `State.setReg` -/
@[simp] theorem State.setReg_f (r : Reg8) (v : Byte) : (s.setReg r v).f = s.f := by cases r <;> rfl
@[simp] theorem State.setReg_sp (r : Reg8) (v : Byte) : (s.setReg r v).sp = s.sp := by cases r <;> rfl
@[simp] theorem State.setReg_pc (r : Reg8) (v : Byte) : (s.setReg r v).pc = s.pc := by cases r <;> rfl
@[simp] theorem State.setReg_ime (r : Reg8) (v : Byte) : (s.setReg r v).ime = s.ime := by cases r <;> rfl
@[simp] theorem State.setReg_eiPending (r : Reg8) (v : Byte) : (s.setReg r v).eiPending = s.eiPending :=
  by cases r <;> rfl
@[simp] theorem State.setReg_halted (r : Reg8) (v : Byte) : (s.setReg r v).halted = s.halted := by cases r <;> rfl
@[simp] theorem State.setReg_haltBug (r : Reg8) (v : Byte) : (s.setReg r v).haltBug = s.haltBug := by cases r <;> rfl
@[simp] theorem State.setReg_stopped (r : Reg8) (v : Byte) : (s.setReg r v).stopped = s.stopped := by cases r <;> rfl
@[simp] theorem State.setReg_cycles (r : Reg8) (v : Byte) : (s.setReg r v).cycles = s.cycles := by cases r <;> rfl
@[simp] theorem State.setReg_fault (r : Reg8) (v : Byte) : (s.setReg r v).fault = s.fault := by cases r <;> rfl
@[simp] theorem State.setReg_ifr (r : Reg8) (v : Byte) : (s.setReg r v).ifr = s.ifr := by cases r <;> rfl
@[simp] theorem State.setReg_ie (r : Reg8) (v : Byte) : (s.setReg r v).ie = s.ie := by cases r <;> rfl
@[simp] theorem State.setReg_stepPc (r : Reg8) (v : Byte) : (s.setReg r v).stepPc = s.stepPc := by cases r <;> rfl
@[simp] theorem State.setReg_bus (r : Reg8) (v : Byte) : (s.setReg r v).bus = s.bus := by cases r <;> rfl
@[simp] theorem State.setReg_haltBugPolicy (r : Reg8) (v : Byte) : (s.setReg r v).haltBugPolicy = s.haltBugPolicy :=
  by cases r <;> rfl
@[simp] theorem State.setReg_stopPolicy (r : Reg8) (v : Byte) : (s.setReg r v).stopPolicy = s.stopPolicy :=
  by cases r <;> rfl
@[simp] theorem State.setReg_reg_same (r : Reg8) (v : Byte) : (s.setReg r v).reg r = v := by cases r <;> rfl
@[simp] theorem State.setReg_reg_other {q r : Reg8} (h : q ≠ r) (v : Byte) : (s.setReg r v).reg q = s.reg q := by
  cases q <;> cases r <;> first | rfl | exact absurd rfl h
theorem State.setReg_reg (q r : Reg8) (v : Byte) : (s.setReg r v).reg q = if q = r then v else s.reg q := by
  cases q <;> cases r <;> rfl
theorem State.setReg_unset_reg (q r : Reg8) (v : Byte) :
    (s.setReg r v).unset.reg q = if q = r then false else s.unset.reg q := by
  cases q <;> cases r <;> rfl
@[simp] theorem State.setReg_unset_f (r : Reg8) (v : Byte) : (s.setReg r v).unset.f = s.unset.f :=
  by cases r <;> rfl
@[simp] theorem State.setReg_unset_sp (r : Reg8) (v : Byte) : (s.setReg r v).unset.sp = s.unset.sp :=
  by cases r <;> rfl
@[simp] theorem State.setReg_unset_ifr (r : Reg8) (v : Byte) : (s.setReg r v).unset.ifr = s.unset.ifr :=
  by cases r <;> rfl
@[simp] theorem State.setReg_unset_ie (r : Reg8) (v : Byte) : (s.setReg r v).unset.ie = s.unset.ie :=
  by cases r <;> rfl
@[simp] theorem State.setReg_flags (r : Reg8) (v : Byte) : (s.setReg r v).flags = s.flags := by cases r <;> rfl

/-! ### `State.setF` -/
@[simp] theorem State.setF_f (v : Byte) : (s.setF v).f = v &&& 0xF0#8 := rfl
@[simp] theorem State.setF_a (v : Byte) : (s.setF v).a = s.a := rfl
@[simp] theorem State.setF_b (v : Byte) : (s.setF v).b = s.b := rfl
@[simp] theorem State.setF_c (v : Byte) : (s.setF v).c = s.c := rfl
@[simp] theorem State.setF_d (v : Byte) : (s.setF v).d = s.d := rfl
@[simp] theorem State.setF_e (v : Byte) : (s.setF v).e = s.e := rfl
@[simp] theorem State.setF_h (v : Byte) : (s.setF v).h = s.h := rfl
@[simp] theorem State.setF_l (v : Byte) : (s.setF v).l = s.l := rfl
@[simp] theorem State.setF_sp (v : Byte) : (s.setF v).sp = s.sp := rfl
@[simp] theorem State.setF_pc (v : Byte) : (s.setF v).pc = s.pc := rfl
@[simp] theorem State.setF_ime (v : Byte) : (s.setF v).ime = s.ime := rfl
@[simp] theorem State.setF_eiPending (v : Byte) : (s.setF v).eiPending = s.eiPending := rfl
@[simp] theorem State.setF_halted (v : Byte) : (s.setF v).halted = s.halted := rfl
@[simp] theorem State.setF_haltBug (v : Byte) : (s.setF v).haltBug = s.haltBug := rfl
@[simp] theorem State.setF_stopped (v : Byte) : (s.setF v).stopped = s.stopped := rfl
@[simp] theorem State.setF_cycles (v : Byte) : (s.setF v).cycles = s.cycles := rfl
@[simp] theorem State.setF_fault (v : Byte) : (s.setF v).fault = s.fault := rfl
@[simp] theorem State.setF_ifr (v : Byte) : (s.setF v).ifr = s.ifr := rfl
@[simp] theorem State.setF_ie (v : Byte) : (s.setF v).ie = s.ie := rfl
@[simp] theorem State.setF_stepPc (v : Byte) : (s.setF v).stepPc = s.stepPc := rfl
@[simp] theorem State.setF_bus (v : Byte) : (s.setF v).bus = s.bus := rfl
@[simp] theorem State.setF_haltBugPolicy (v : Byte) : (s.setF v).haltBugPolicy = s.haltBugPolicy := rfl
@[simp] theorem State.setF_stopPolicy (v : Byte) : (s.setF v).stopPolicy = s.stopPolicy := rfl
@[simp] theorem State.setF_reg (v : Byte) (q : Reg8) : (s.setF v).reg q = s.reg q := by cases q <;> rfl
@[simp] theorem State.setF_unset_reg (v : Byte) (q : Reg8) : (s.setF v).unset.reg q = s.unset.reg q :=
  by cases q <;> rfl
@[simp] theorem State.setF_flags (v : Byte) : (s.setF v).flags = v &&& 0xF0#8 := by
  simp [State.flags, BitVec.and_assoc]
@[simp] theorem State.setF_unset_f (v : Byte) : (s.setF v).unset.f = false := rfl
@[simp] theorem State.setF_unset_sp (v : Byte) : (s.setF v).unset.sp = s.unset.sp := rfl
@[simp] theorem State.setF_unset_ifr (v : Byte) : (s.setF v).unset.ifr = s.unset.ifr := rfl
@[simp] theorem State.setF_unset_ie (v : Byte) : (s.setF v).unset.ie = s.unset.ie := rfl
@[simp] theorem State.setF_pair_bc (v : Byte) : (s.setF v).pair .bc = s.pair .bc := rfl
@[simp] theorem State.setF_pair_de (v : Byte) : (s.setF v).pair .de = s.pair .de := rfl
@[simp] theorem State.setF_pair_hl (v : Byte) : (s.setF v).pair .hl = s.pair .hl := rfl

/-! ### `State.setSp` -/
@[simp] theorem State.setSp_sp (v : Word) : (s.setSp v).sp = v := rfl
@[simp] theorem State.setSp_a (v : Word) : (s.setSp v).a = s.a := rfl
@[simp] theorem State.setSp_f (v : Word) : (s.setSp v).f = s.f := rfl
@[simp] theorem State.setSp_b (v : Word) : (s.setSp v).b = s.b := rfl
@[simp] theorem State.setSp_c (v : Word) : (s.setSp v).c = s.c := rfl
@[simp] theorem State.setSp_d (v : Word) : (s.setSp v).d = s.d := rfl
@[simp] theorem State.setSp_e (v : Word) : (s.setSp v).e = s.e := rfl
@[simp] theorem State.setSp_h (v : Word) : (s.setSp v).h = s.h := rfl
@[simp] theorem State.setSp_l (v : Word) : (s.setSp v).l = s.l := rfl
@[simp] theorem State.setSp_pc (v : Word) : (s.setSp v).pc = s.pc := rfl
@[simp] theorem State.setSp_ime (v : Word) : (s.setSp v).ime = s.ime := rfl
@[simp] theorem State.setSp_eiPending (v : Word) : (s.setSp v).eiPending = s.eiPending := rfl
@[simp] theorem State.setSp_halted (v : Word) : (s.setSp v).halted = s.halted := rfl
@[simp] theorem State.setSp_haltBug (v : Word) : (s.setSp v).haltBug = s.haltBug := rfl
@[simp] theorem State.setSp_stopped (v : Word) : (s.setSp v).stopped = s.stopped := rfl
@[simp] theorem State.setSp_cycles (v : Word) : (s.setSp v).cycles = s.cycles := rfl
@[simp] theorem State.setSp_fault (v : Word) : (s.setSp v).fault = s.fault := rfl
@[simp] theorem State.setSp_ifr (v : Word) : (s.setSp v).ifr = s.ifr := rfl
@[simp] theorem State.setSp_ie (v : Word) : (s.setSp v).ie = s.ie := rfl
@[simp] theorem State.setSp_stepPc (v : Word) : (s.setSp v).stepPc = s.stepPc := rfl
@[simp] theorem State.setSp_bus (v : Word) : (s.setSp v).bus = s.bus := rfl
@[simp] theorem State.setSp_haltBugPolicy (v : Word) : (s.setSp v).haltBugPolicy = s.haltBugPolicy := rfl
@[simp] theorem State.setSp_stopPolicy (v : Word) : (s.setSp v).stopPolicy = s.stopPolicy := rfl
@[simp] theorem State.setSp_reg (v : Word) (q : Reg8) : (s.setSp v).reg q = s.reg q := by cases q <;> rfl
@[simp] theorem State.setSp_unset_reg (v : Word) (q : Reg8) : (s.setSp v).unset.reg q = s.unset.reg q :=
  by cases q <;> rfl
@[simp] theorem State.setSp_flags (v : Word) : (s.setSp v).flags = s.flags := rfl
@[simp] theorem State.setSp_unset_f (v : Word) : (s.setSp v).unset.f = s.unset.f := rfl
@[simp] theorem State.setSp_unset_sp (v : Word) : (s.setSp v).unset.sp = false := rfl
@[simp] theorem State.setSp_unset_ifr (v : Word) : (s.setSp v).unset.ifr = s.unset.ifr := rfl
@[simp] theorem State.setSp_unset_ie (v : Word) : (s.setSp v).unset.ie = s.unset.ie := rfl
@[simp] theorem State.setSp_pair_bc (v : Word) : (s.setSp v).pair .bc = s.pair .bc := rfl
@[simp] theorem State.setSp_pair_de (v : Word) : (s.setSp v).pair .de = s.pair .de := rfl
@[simp] theorem State.setSp_pair_hl (v : Word) : (s.setSp v).pair .hl = s.pair .hl := rfl

/-! ### `State.setPc` -/
@[simp] theorem State.setPc_pc (v : Word) : (s.setPc v).pc = v := rfl
@[simp] theorem State.setPc_a (v : Word) : (s.setPc v).a = s.a := rfl
@[simp] theorem State.setPc_f (v : Word) : (s.setPc v).f = s.f := rfl
@[simp] theorem State.setPc_b (v : Word) : (s.setPc v).b = s.b := rfl
@[simp] theorem State.setPc_c (v : Word) : (s.setPc v).c = s.c := rfl
@[simp] theorem State.setPc_d (v : Word) : (s.setPc v).d = s.d := rfl
@[simp] theorem State.setPc_e (v : Word) : (s.setPc v).e = s.e := rfl
@[simp] theorem State.setPc_h (v : Word) : (s.setPc v).h = s.h := rfl
@[simp] theorem State.setPc_l (v : Word) : (s.setPc v).l = s.l := rfl
@[simp] theorem State.setPc_sp (v : Word) : (s.setPc v).sp = s.sp := rfl
@[simp] theorem State.setPc_ime (v : Word) : (s.setPc v).ime = s.ime := rfl
@[simp] theorem State.setPc_eiPending (v : Word) : (s.setPc v).eiPending = s.eiPending := rfl
@[simp] theorem State.setPc_halted (v : Word) : (s.setPc v).halted = s.halted := rfl
@[simp] theorem State.setPc_haltBug (v : Word) : (s.setPc v).haltBug = s.haltBug := rfl
@[simp] theorem State.setPc_stopped (v : Word) : (s.setPc v).stopped = s.stopped := rfl
@[simp] theorem State.setPc_cycles (v : Word) : (s.setPc v).cycles = s.cycles := rfl
@[simp] theorem State.setPc_fault (v : Word) : (s.setPc v).fault = s.fault := rfl
@[simp] theorem State.setPc_ifr (v : Word) : (s.setPc v).ifr = s.ifr := rfl
@[simp] theorem State.setPc_ie (v : Word) : (s.setPc v).ie = s.ie := rfl
@[simp] theorem State.setPc_stepPc (v : Word) : (s.setPc v).stepPc = s.stepPc := rfl
@[simp] theorem State.setPc_bus (v : Word) : (s.setPc v).bus = s.bus := rfl
@[simp] theorem State.setPc_haltBugPolicy (v : Word) : (s.setPc v).haltBugPolicy = s.haltBugPolicy := rfl
@[simp] theorem State.setPc_stopPolicy (v : Word) : (s.setPc v).stopPolicy = s.stopPolicy := rfl
@[simp] theorem State.setPc_reg (v : Word) (q : Reg8) : (s.setPc v).reg q = s.reg q := by cases q <;> rfl
@[simp] theorem State.setPc_unset_reg (v : Word) (q : Reg8) : (s.setPc v).unset.reg q = s.unset.reg q :=
  by cases q <;> rfl
@[simp] theorem State.setPc_flags (v : Word) : (s.setPc v).flags = s.flags := rfl
@[simp] theorem State.setPc_unset (v : Word) : (s.setPc v).unset = s.unset := rfl
@[simp] theorem State.setPc_pair (v : Word) (p : Reg16) : (s.setPc v).pair p = s.pair p := by cases p <;> rfl

/-! ### `State.setIf` -/
@[simp] theorem State.setIf_ifr (v : Byte) : (s.setIf v).ifr = v.extractLsb' 0 5 := rfl
@[simp] theorem State.setIf_a (v : Byte) : (s.setIf v).a = s.a := rfl
@[simp] theorem State.setIf_f (v : Byte) : (s.setIf v).f = s.f := rfl
@[simp] theorem State.setIf_b (v : Byte) : (s.setIf v).b = s.b := rfl
@[simp] theorem State.setIf_c (v : Byte) : (s.setIf v).c = s.c := rfl
@[simp] theorem State.setIf_d (v : Byte) : (s.setIf v).d = s.d := rfl
@[simp] theorem State.setIf_e (v : Byte) : (s.setIf v).e = s.e := rfl
@[simp] theorem State.setIf_h (v : Byte) : (s.setIf v).h = s.h := rfl
@[simp] theorem State.setIf_l (v : Byte) : (s.setIf v).l = s.l := rfl
@[simp] theorem State.setIf_sp (v : Byte) : (s.setIf v).sp = s.sp := rfl
@[simp] theorem State.setIf_pc (v : Byte) : (s.setIf v).pc = s.pc := rfl
@[simp] theorem State.setIf_ime (v : Byte) : (s.setIf v).ime = s.ime := rfl
@[simp] theorem State.setIf_eiPending (v : Byte) : (s.setIf v).eiPending = s.eiPending := rfl
@[simp] theorem State.setIf_halted (v : Byte) : (s.setIf v).halted = s.halted := rfl
@[simp] theorem State.setIf_haltBug (v : Byte) : (s.setIf v).haltBug = s.haltBug := rfl
@[simp] theorem State.setIf_stopped (v : Byte) : (s.setIf v).stopped = s.stopped := rfl
@[simp] theorem State.setIf_cycles (v : Byte) : (s.setIf v).cycles = s.cycles := rfl
@[simp] theorem State.setIf_fault (v : Byte) : (s.setIf v).fault = s.fault := rfl
@[simp] theorem State.setIf_ie (v : Byte) : (s.setIf v).ie = s.ie := rfl
@[simp] theorem State.setIf_stepPc (v : Byte) : (s.setIf v).stepPc = s.stepPc := rfl
@[simp] theorem State.setIf_bus (v : Byte) : (s.setIf v).bus = s.bus := rfl
@[simp] theorem State.setIf_haltBugPolicy (v : Byte) : (s.setIf v).haltBugPolicy = s.haltBugPolicy := rfl
@[simp] theorem State.setIf_stopPolicy (v : Byte) : (s.setIf v).stopPolicy = s.stopPolicy := rfl
@[simp] theorem State.setIf_reg (v : Byte) (q : Reg8) : (s.setIf v).reg q = s.reg q := by cases q <;> rfl
@[simp] theorem State.setIf_unset_reg (v : Byte) (q : Reg8) : (s.setIf v).unset.reg q = s.unset.reg q :=
  by cases q <;> rfl
@[simp] theorem State.setIf_flags (v : Byte) : (s.setIf v).flags = s.flags := rfl
@[simp] theorem State.setIf_unset_f (v : Byte) : (s.setIf v).unset.f = s.unset.f := rfl
@[simp] theorem State.setIf_unset_sp (v : Byte) : (s.setIf v).unset.sp = s.unset.sp := rfl
@[simp] theorem State.setIf_unset_ifr (v : Byte) : (s.setIf v).unset.ifr = false := rfl
@[simp] theorem State.setIf_unset_ie (v : Byte) : (s.setIf v).unset.ie = s.unset.ie := rfl
@[simp] theorem State.setIf_pair (v : Byte) (p : Reg16) : (s.setIf v).pair p = s.pair p := by cases p <;> rfl

/-! ### `State.setIe` -/
@[simp] theorem State.setIe_ie (v : Byte) : (s.setIe v).ie = v := rfl
@[simp] theorem State.setIe_a (v : Byte) : (s.setIe v).a = s.a := rfl
@[simp] theorem State.setIe_f (v : Byte) : (s.setIe v).f = s.f := rfl
@[simp] theorem State.setIe_b (v : Byte) : (s.setIe v).b = s.b := rfl
@[simp] theorem State.setIe_c (v : Byte) : (s.setIe v).c = s.c := rfl
@[simp] theorem State.setIe_d (v : Byte) : (s.setIe v).d = s.d := rfl
@[simp] theorem State.setIe_e (v : Byte) : (s.setIe v).e = s.e := rfl
@[simp] theorem State.setIe_h (v : Byte) : (s.setIe v).h = s.h := rfl
@[simp] theorem State.setIe_l (v : Byte) : (s.setIe v).l = s.l := rfl
@[simp] theorem State.setIe_sp (v : Byte) : (s.setIe v).sp = s.sp := rfl
@[simp] theorem State.setIe_pc (v : Byte) : (s.setIe v).pc = s.pc := rfl
@[simp] theorem State.setIe_ime (v : Byte) : (s.setIe v).ime = s.ime := rfl
@[simp] theorem State.setIe_eiPending (v : Byte) : (s.setIe v).eiPending = s.eiPending := rfl
@[simp] theorem State.setIe_halted (v : Byte) : (s.setIe v).halted = s.halted := rfl
@[simp] theorem State.setIe_haltBug (v : Byte) : (s.setIe v).haltBug = s.haltBug := rfl
@[simp] theorem State.setIe_stopped (v : Byte) : (s.setIe v).stopped = s.stopped := rfl
@[simp] theorem State.setIe_cycles (v : Byte) : (s.setIe v).cycles = s.cycles := rfl
@[simp] theorem State.setIe_fault (v : Byte) : (s.setIe v).fault = s.fault := rfl
@[simp] theorem State.setIe_ifr (v : Byte) : (s.setIe v).ifr = s.ifr := rfl
@[simp] theorem State.setIe_stepPc (v : Byte) : (s.setIe v).stepPc = s.stepPc := rfl
@[simp] theorem State.setIe_bus (v : Byte) : (s.setIe v).bus = s.bus := rfl
@[simp] theorem State.setIe_haltBugPolicy (v : Byte) : (s.setIe v).haltBugPolicy = s.haltBugPolicy := rfl
@[simp] theorem State.setIe_stopPolicy (v : Byte) : (s.setIe v).stopPolicy = s.stopPolicy := rfl
@[simp] theorem State.setIe_reg (v : Byte) (q : Reg8) : (s.setIe v).reg q = s.reg q := by cases q <;> rfl
@[simp] theorem State.setIe_unset_reg (v : Byte) (q : Reg8) : (s.setIe v).unset.reg q = s.unset.reg q :=
  by cases q <;> rfl
@[simp] theorem State.setIe_flags (v : Byte) : (s.setIe v).flags = s.flags := rfl
@[simp] theorem State.setIe_unset_f (v : Byte) : (s.setIe v).unset.f = s.unset.f := rfl
@[simp] theorem State.setIe_unset_sp (v : Byte) : (s.setIe v).unset.sp = s.unset.sp := rfl
@[simp] theorem State.setIe_unset_ifr (v : Byte) : (s.setIe v).unset.ifr = s.unset.ifr := rfl
@[simp] theorem State.setIe_unset_ie (v : Byte) : (s.setIe v).unset.ie = false := rfl
@[simp] theorem State.setIe_pair (v : Byte) (p : Reg16) : (s.setIe v).pair p = s.pair p := by cases p <;> rfl

/-! ### `State.setBus` -/
@[simp] theorem State.setBus_bus (b : Bus) : (s.setBus b).bus = b := rfl
@[simp] theorem State.setBus_a (b : Bus) : (s.setBus b).a = s.a := rfl
@[simp] theorem State.setBus_f (b : Bus) : (s.setBus b).f = s.f := rfl
@[simp] theorem State.setBus_b (b : Bus) : (s.setBus b).b = s.b := rfl
@[simp] theorem State.setBus_c (b : Bus) : (s.setBus b).c = s.c := rfl
@[simp] theorem State.setBus_d (b : Bus) : (s.setBus b).d = s.d := rfl
@[simp] theorem State.setBus_e (b : Bus) : (s.setBus b).e = s.e := rfl
@[simp] theorem State.setBus_h (b : Bus) : (s.setBus b).h = s.h := rfl
@[simp] theorem State.setBus_l (b : Bus) : (s.setBus b).l = s.l := rfl
@[simp] theorem State.setBus_sp (b : Bus) : (s.setBus b).sp = s.sp := rfl
@[simp] theorem State.setBus_pc (b : Bus) : (s.setBus b).pc = s.pc := rfl
@[simp] theorem State.setBus_ime (b : Bus) : (s.setBus b).ime = s.ime := rfl
@[simp] theorem State.setBus_eiPending (b : Bus) : (s.setBus b).eiPending = s.eiPending := rfl
@[simp] theorem State.setBus_halted (b : Bus) : (s.setBus b).halted = s.halted := rfl
@[simp] theorem State.setBus_haltBug (b : Bus) : (s.setBus b).haltBug = s.haltBug := rfl
@[simp] theorem State.setBus_stopped (b : Bus) : (s.setBus b).stopped = s.stopped := rfl
@[simp] theorem State.setBus_cycles (b : Bus) : (s.setBus b).cycles = s.cycles := rfl
@[simp] theorem State.setBus_fault (b : Bus) : (s.setBus b).fault = s.fault := rfl
@[simp] theorem State.setBus_ifr (b : Bus) : (s.setBus b).ifr = s.ifr := rfl
@[simp] theorem State.setBus_ie (b : Bus) : (s.setBus b).ie = s.ie := rfl
@[simp] theorem State.setBus_stepPc (b : Bus) : (s.setBus b).stepPc = s.stepPc := rfl
@[simp] theorem State.setBus_haltBugPolicy (b : Bus) : (s.setBus b).haltBugPolicy = s.haltBugPolicy := rfl
@[simp] theorem State.setBus_stopPolicy (b : Bus) : (s.setBus b).stopPolicy = s.stopPolicy := rfl
@[simp] theorem State.setBus_reg (b : Bus) (q : Reg8) : (s.setBus b).reg q = s.reg q := by cases q <;> rfl
@[simp] theorem State.setBus_unset_reg (b : Bus) (q : Reg8) : (s.setBus b).unset.reg q = s.unset.reg q :=
  by cases q <;> rfl
@[simp] theorem State.setBus_flags (b : Bus) : (s.setBus b).flags = s.flags := rfl
@[simp] theorem State.setBus_unset (b : Bus) : (s.setBus b).unset = s.unset := rfl
@[simp] theorem State.setBus_pair (b : Bus) (p : Reg16) : (s.setBus b).pair p = s.pair p := by cases p <;> rfl

/-! ### `State.tick` -/
@[simp] theorem State.tick_cycles (n : Nat) : (s.tick n).cycles = s.cycles + BitVec.ofNat 64 n := rfl
@[simp] theorem State.tick_a (n : Nat) : (s.tick n).a = s.a := rfl
@[simp] theorem State.tick_f (n : Nat) : (s.tick n).f = s.f := rfl
@[simp] theorem State.tick_b (n : Nat) : (s.tick n).b = s.b := rfl
@[simp] theorem State.tick_c (n : Nat) : (s.tick n).c = s.c := rfl
@[simp] theorem State.tick_d (n : Nat) : (s.tick n).d = s.d := rfl
@[simp] theorem State.tick_e (n : Nat) : (s.tick n).e = s.e := rfl
@[simp] theorem State.tick_h (n : Nat) : (s.tick n).h = s.h := rfl
@[simp] theorem State.tick_l (n : Nat) : (s.tick n).l = s.l := rfl
@[simp] theorem State.tick_sp (n : Nat) : (s.tick n).sp = s.sp := rfl
@[simp] theorem State.tick_pc (n : Nat) : (s.tick n).pc = s.pc := rfl
@[simp] theorem State.tick_ime (n : Nat) : (s.tick n).ime = s.ime := rfl
@[simp] theorem State.tick_eiPending (n : Nat) : (s.tick n).eiPending = s.eiPending := rfl
@[simp] theorem State.tick_halted (n : Nat) : (s.tick n).halted = s.halted := rfl
@[simp] theorem State.tick_haltBug (n : Nat) : (s.tick n).haltBug = s.haltBug := rfl
@[simp] theorem State.tick_stopped (n : Nat) : (s.tick n).stopped = s.stopped := rfl
@[simp] theorem State.tick_fault (n : Nat) : (s.tick n).fault = s.fault := rfl
@[simp] theorem State.tick_ifr (n : Nat) : (s.tick n).ifr = s.ifr := rfl
@[simp] theorem State.tick_ie (n : Nat) : (s.tick n).ie = s.ie := rfl
@[simp] theorem State.tick_stepPc (n : Nat) : (s.tick n).stepPc = s.stepPc := rfl
@[simp] theorem State.tick_bus (n : Nat) : (s.tick n).bus = s.bus := rfl
@[simp] theorem State.tick_haltBugPolicy (n : Nat) : (s.tick n).haltBugPolicy = s.haltBugPolicy := rfl
@[simp] theorem State.tick_stopPolicy (n : Nat) : (s.tick n).stopPolicy = s.stopPolicy := rfl
@[simp] theorem State.tick_reg (n : Nat) (q : Reg8) : (s.tick n).reg q = s.reg q := by cases q <;> rfl
@[simp] theorem State.tick_unset_reg (n : Nat) (q : Reg8) : (s.tick n).unset.reg q = s.unset.reg q :=
  by cases q <;> rfl
@[simp] theorem State.tick_flags (n : Nat) : (s.tick n).flags = s.flags := rfl
@[simp] theorem State.tick_unset (n : Nat) : (s.tick n).unset = s.unset := rfl
@[simp] theorem State.tick_pair (n : Nat) (p : Reg16) : (s.tick n).pair p = s.pair p := by cases p <;> rfl

/-! ### `State.afterRead` -/

@[simp] theorem State.afterRead_a (a : Word) : (s.afterRead a).a = s.a := by
  unfold State.afterRead; split <;> [rfl; (split <;> rfl)]
@[simp] theorem State.afterRead_f (a : Word) : (s.afterRead a).f = s.f := by
  unfold State.afterRead; split <;> [rfl; (split <;> rfl)]
@[simp] theorem State.afterRead_b (a : Word) : (s.afterRead a).b = s.b := by
  unfold State.afterRead; split <;> [rfl; (split <;> rfl)]
@[simp] theorem State.afterRead_c (a : Word) : (s.afterRead a).c = s.c := by
  unfold State.afterRead; split <;> [rfl; (split <;> rfl)]
@[simp] theorem State.afterRead_d (a : Word) : (s.afterRead a).d = s.d := by
  unfold State.afterRead; split <;> [rfl; (split <;> rfl)]
@[simp] theorem State.afterRead_e (a : Word) : (s.afterRead a).e = s.e := by
  unfold State.afterRead; split <;> [rfl; (split <;> rfl)]
@[simp] theorem State.afterRead_h (a : Word) : (s.afterRead a).h = s.h := by
  unfold State.afterRead; split <;> [rfl; (split <;> rfl)]
@[simp] theorem State.afterRead_l (a : Word) : (s.afterRead a).l = s.l := by
  unfold State.afterRead; split <;> [rfl; (split <;> rfl)]
@[simp] theorem State.afterRead_sp (a : Word) : (s.afterRead a).sp = s.sp := by
  unfold State.afterRead; split <;> [rfl; (split <;> rfl)]
@[simp] theorem State.afterRead_pc (a : Word) : (s.afterRead a).pc = s.pc := by
  unfold State.afterRead; split <;> [rfl; (split <;> rfl)]
@[simp] theorem State.afterRead_ime (a : Word) : (s.afterRead a).ime = s.ime := by
  unfold State.afterRead; split <;> [rfl; (split <;> rfl)]
@[simp] theorem State.afterRead_eiPending (a : Word) : (s.afterRead a).eiPending = s.eiPending := by
  unfold State.afterRead; split <;> [rfl; (split <;> rfl)]
@[simp] theorem State.afterRead_halted (a : Word) : (s.afterRead a).halted = s.halted := by
  unfold State.afterRead; split <;> [rfl; (split <;> rfl)]
@[simp] theorem State.afterRead_haltBug (a : Word) : (s.afterRead a).haltBug = s.haltBug := by
  unfold State.afterRead; split <;> [rfl; (split <;> rfl)]
@[simp] theorem State.afterRead_stopped (a : Word) : (s.afterRead a).stopped = s.stopped := by
  unfold State.afterRead; split <;> [rfl; (split <;> rfl)]
@[simp] theorem State.afterRead_cycles (a : Word) : (s.afterRead a).cycles = s.cycles := by
  unfold State.afterRead; split <;> [rfl; (split <;> rfl)]
@[simp] theorem State.afterRead_fault (a : Word) : (s.afterRead a).fault = s.fault := by
  unfold State.afterRead; split <;> [rfl; (split <;> rfl)]
@[simp] theorem State.afterRead_ifr (a : Word) : (s.afterRead a).ifr = s.ifr := by
  unfold State.afterRead; split <;> [rfl; (split <;> rfl)]
@[simp] theorem State.afterRead_ie (a : Word) : (s.afterRead a).ie = s.ie := by
  unfold State.afterRead; split <;> [rfl; (split <;> rfl)]
@[simp] theorem State.afterRead_stepPc (a : Word) : (s.afterRead a).stepPc = s.stepPc := by
  unfold State.afterRead; split <;> [rfl; (split <;> rfl)]
@[simp] theorem State.afterRead_haltBugPolicy (a : Word) : (s.afterRead a).haltBugPolicy = s.haltBugPolicy := by
  unfold State.afterRead; split <;> [rfl; (split <;> rfl)]
@[simp] theorem State.afterRead_stopPolicy (a : Word) : (s.afterRead a).stopPolicy = s.stopPolicy := by
  unfold State.afterRead; split <;> [rfl; (split <;> rfl)]
@[simp] theorem State.afterRead_unset (a : Word) : (s.afterRead a).unset = s.unset := by
  unfold State.afterRead; split <;> [rfl; (split <;> rfl)]
@[simp] theorem State.afterRead_reg (a : Word) (q : Reg8) : (s.afterRead a).reg q = s.reg q := by
  unfold State.afterRead; split <;> [rfl; (split <;> simp)]
@[simp] theorem State.afterRead_flags (a : Word) : (s.afterRead a).flags = s.flags := by
  unfold State.afterRead; split <;> [rfl; (split <;> simp)]
@[simp] theorem State.afterRead_pair (a : Word) (p : Reg16) : (s.afterRead a).pair p = s.pair p := by
  unfold State.afterRead; split <;> [rfl; (split <;> simp)]

/-! ### `State.storeByte` -/

@[simp] theorem State.storeByte_a (a : Word) (v : Byte) : (s.storeByte a v).a = s.a := by
  unfold State.storeByte; split <;> [rfl; (split <;> rfl)]
@[simp] theorem State.storeByte_f (a : Word) (v : Byte) : (s.storeByte a v).f = s.f := by
  unfold State.storeByte; split <;> [rfl; (split <;> rfl)]
@[simp] theorem State.storeByte_b (a : Word) (v : Byte) : (s.storeByte a v).b = s.b := by
  unfold State.storeByte; split <;> [rfl; (split <;> rfl)]
@[simp] theorem State.storeByte_c (a : Word) (v : Byte) : (s.storeByte a v).c = s.c := by
  unfold State.storeByte; split <;> [rfl; (split <;> rfl)]
@[simp] theorem State.storeByte_d (a : Word) (v : Byte) : (s.storeByte a v).d = s.d := by
  unfold State.storeByte; split <;> [rfl; (split <;> rfl)]
@[simp] theorem State.storeByte_e (a : Word) (v : Byte) : (s.storeByte a v).e = s.e := by
  unfold State.storeByte; split <;> [rfl; (split <;> rfl)]
@[simp] theorem State.storeByte_h (a : Word) (v : Byte) : (s.storeByte a v).h = s.h := by
  unfold State.storeByte; split <;> [rfl; (split <;> rfl)]
@[simp] theorem State.storeByte_l (a : Word) (v : Byte) : (s.storeByte a v).l = s.l := by
  unfold State.storeByte; split <;> [rfl; (split <;> rfl)]
@[simp] theorem State.storeByte_sp (a : Word) (v : Byte) : (s.storeByte a v).sp = s.sp := by
  unfold State.storeByte; split <;> [rfl; (split <;> rfl)]
@[simp] theorem State.storeByte_pc (a : Word) (v : Byte) : (s.storeByte a v).pc = s.pc := by
  unfold State.storeByte; split <;> [rfl; (split <;> rfl)]
@[simp] theorem State.storeByte_ime (a : Word) (v : Byte) : (s.storeByte a v).ime = s.ime := by
  unfold State.storeByte; split <;> [rfl; (split <;> rfl)]
@[simp] theorem State.storeByte_eiPending (a : Word) (v : Byte) : (s.storeByte a v).eiPending = s.eiPending := by
  unfold State.storeByte; split <;> [rfl; (split <;> rfl)]
@[simp] theorem State.storeByte_halted (a : Word) (v : Byte) : (s.storeByte a v).halted = s.halted := by
  unfold State.storeByte; split <;> [rfl; (split <;> rfl)]
@[simp] theorem State.storeByte_haltBug (a : Word) (v : Byte) : (s.storeByte a v).haltBug = s.haltBug := by
  unfold State.storeByte; split <;> [rfl; (split <;> rfl)]
@[simp] theorem State.storeByte_stopped (a : Word) (v : Byte) : (s.storeByte a v).stopped = s.stopped := by
  unfold State.storeByte; split <;> [rfl; (split <;> rfl)]
@[simp] theorem State.storeByte_cycles (a : Word) (v : Byte) : (s.storeByte a v).cycles = s.cycles := by
  unfold State.storeByte; split <;> [rfl; (split <;> rfl)]
@[simp] theorem State.storeByte_fault (a : Word) (v : Byte) : (s.storeByte a v).fault = s.fault := by
  unfold State.storeByte; split <;> [rfl; (split <;> rfl)]
@[simp] theorem State.storeByte_stepPc (a : Word) (v : Byte) : (s.storeByte a v).stepPc = s.stepPc := by
  unfold State.storeByte; split <;> [rfl; (split <;> rfl)]
@[simp] theorem State.storeByte_haltBugPolicy (a : Word) (v : Byte) : (s.storeByte a v).haltBugPolicy = s.haltBugPolicy := by
  unfold State.storeByte; split <;> [rfl; (split <;> rfl)]
@[simp] theorem State.storeByte_stopPolicy (a : Word) (v : Byte) : (s.storeByte a v).stopPolicy = s.stopPolicy := by
  unfold State.storeByte; split <;> [rfl; (split <;> rfl)]
@[simp] theorem State.storeByte_unset_sp (a : Word) (v : Byte) : (s.storeByte a v).unset.sp = s.unset.sp := by
  unfold State.storeByte; split <;> [rfl; (split <;> rfl)]
@[simp] theorem State.storeByte_unset_f (a : Word) (v : Byte) : (s.storeByte a v).unset.f = s.unset.f := by
  unfold State.storeByte; split <;> [rfl; (split <;> rfl)]
@[simp] theorem State.storeByte_reg (a : Word) (v : Byte) (q : Reg8) : (s.storeByte a v).reg q = s.reg q := by
  unfold State.storeByte; split <;> [simp; (split <;> simp)]
@[simp] theorem State.storeByte_unset_reg (a : Word) (v : Byte) (q : Reg8) :
    (s.storeByte a v).unset.reg q = s.unset.reg q := by
  unfold State.storeByte; split <;> [simp; (split <;> simp)]
@[simp] theorem State.storeByte_flags (a : Word) (v : Byte) : (s.storeByte a v).flags = s.flags := by
  unfold State.storeByte; split <;> [simp; (split <;> simp)]
@[simp] theorem State.storeByte_pair (a : Word) (v : Byte) (p : Reg16) : (s.storeByte a v).pair p = s.pair p := by
  unfold State.storeByte; split <;> [simp; (split <;> simp)]
@[simp] theorem State.storeByte_unset_pair (a : Word) (v : Byte) (p : Reg16) :
    (s.storeByte a v).unset.pair p = s.unset.pair p := by
  unfold State.storeByte; split <;> [(cases p <;> rfl); (split <;> cases p <;> rfl)]

/-! ### The compound updates: `setPair`, `setOpnd`, `afterAccess`, `pushed` -/

@[simp] theorem State.setPair_pc (p : Reg16) (v : Word) : (s.setPair p v).pc = s.pc := by
  cases p <;> simp [State.setPair]
@[simp] theorem State.setPair_ime (p : Reg16) (v : Word) : (s.setPair p v).ime = s.ime := by
  cases p <;> simp [State.setPair]
@[simp] theorem State.setPair_eiPending (p : Reg16) (v : Word) : (s.setPair p v).eiPending = s.eiPending := by
  cases p <;> simp [State.setPair]
@[simp] theorem State.setPair_halted (p : Reg16) (v : Word) : (s.setPair p v).halted = s.halted := by
  cases p <;> simp [State.setPair]
@[simp] theorem State.setPair_haltBug (p : Reg16) (v : Word) : (s.setPair p v).haltBug = s.haltBug := by
  cases p <;> simp [State.setPair]
@[simp] theorem State.setPair_stopped (p : Reg16) (v : Word) : (s.setPair p v).stopped = s.stopped := by
  cases p <;> simp [State.setPair]
@[simp] theorem State.setPair_cycles (p : Reg16) (v : Word) : (s.setPair p v).cycles = s.cycles := by
  cases p <;> simp [State.setPair]
@[simp] theorem State.setPair_fault (p : Reg16) (v : Word) : (s.setPair p v).fault = s.fault := by
  cases p <;> simp [State.setPair]
@[simp] theorem State.setPair_ifr (p : Reg16) (v : Word) : (s.setPair p v).ifr = s.ifr := by
  cases p <;> simp [State.setPair]
@[simp] theorem State.setPair_ie (p : Reg16) (v : Word) : (s.setPair p v).ie = s.ie := by
  cases p <;> simp [State.setPair]
@[simp] theorem State.setPair_stepPc (p : Reg16) (v : Word) : (s.setPair p v).stepPc = s.stepPc := by
  cases p <;> simp [State.setPair]
@[simp] theorem State.setPair_bus (p : Reg16) (v : Word) : (s.setPair p v).bus = s.bus := by
  cases p <;> simp [State.setPair]
@[simp] theorem State.setPair_haltBugPolicy (p : Reg16) (v : Word) : (s.setPair p v).haltBugPolicy = s.haltBugPolicy := by
  cases p <;> simp [State.setPair]
@[simp] theorem State.setPair_stopPolicy (p : Reg16) (v : Word) : (s.setPair p v).stopPolicy = s.stopPolicy := by
  cases p <;> simp [State.setPair]
@[simp] theorem State.setOpnd_f (o : Opnd8) (v : Byte) : (s.setOpnd o v).f = s.f := by
  cases o <;> simp [State.setOpnd]
@[simp] theorem State.setOpnd_sp (o : Opnd8) (v : Byte) : (s.setOpnd o v).sp = s.sp := by
  cases o <;> simp [State.setOpnd]
@[simp] theorem State.setOpnd_pc (o : Opnd8) (v : Byte) : (s.setOpnd o v).pc = s.pc := by
  cases o <;> simp [State.setOpnd]
@[simp] theorem State.setOpnd_ime (o : Opnd8) (v : Byte) : (s.setOpnd o v).ime = s.ime := by
  cases o <;> simp [State.setOpnd]
@[simp] theorem State.setOpnd_eiPending (o : Opnd8) (v : Byte) : (s.setOpnd o v).eiPending = s.eiPending := by
  cases o <;> simp [State.setOpnd]
@[simp] theorem State.setOpnd_halted (o : Opnd8) (v : Byte) : (s.setOpnd o v).halted = s.halted := by
  cases o <;> simp [State.setOpnd]
@[simp] theorem State.setOpnd_haltBug (o : Opnd8) (v : Byte) : (s.setOpnd o v).haltBug = s.haltBug := by
  cases o <;> simp [State.setOpnd]
@[simp] theorem State.setOpnd_stopped (o : Opnd8) (v : Byte) : (s.setOpnd o v).stopped = s.stopped := by
  cases o <;> simp [State.setOpnd]
@[simp] theorem State.setOpnd_cycles (o : Opnd8) (v : Byte) : (s.setOpnd o v).cycles = s.cycles := by
  cases o <;> simp [State.setOpnd]
@[simp] theorem State.setOpnd_fault (o : Opnd8) (v : Byte) : (s.setOpnd o v).fault = s.fault := by
  cases o <;> simp [State.setOpnd]
@[simp] theorem State.setOpnd_stepPc (o : Opnd8) (v : Byte) : (s.setOpnd o v).stepPc = s.stepPc := by
  cases o <;> simp [State.setOpnd]
@[simp] theorem State.setOpnd_haltBugPolicy (o : Opnd8) (v : Byte) : (s.setOpnd o v).haltBugPolicy = s.haltBugPolicy := by
  cases o <;> simp [State.setOpnd]
@[simp] theorem State.setOpnd_stopPolicy (o : Opnd8) (v : Byte) : (s.setOpnd o v).stopPolicy = s.stopPolicy := by
  cases o <;> simp [State.setOpnd]
@[simp] theorem State.afterAccess_pc (m : MemOpnd) (a : Word) : (s.afterAccess m a).pc = s.pc := by
  cases m <;> simp [State.afterAccess]
@[simp] theorem State.afterAccess_ime (m : MemOpnd) (a : Word) : (s.afterAccess m a).ime = s.ime := by
  cases m <;> simp [State.afterAccess]
@[simp] theorem State.afterAccess_eiPending (m : MemOpnd) (a : Word) : (s.afterAccess m a).eiPending = s.eiPending := by
  cases m <;> simp [State.afterAccess]
@[simp] theorem State.afterAccess_halted (m : MemOpnd) (a : Word) : (s.afterAccess m a).halted = s.halted := by
  cases m <;> simp [State.afterAccess]
@[simp] theorem State.afterAccess_haltBug (m : MemOpnd) (a : Word) : (s.afterAccess m a).haltBug = s.haltBug := by
  cases m <;> simp [State.afterAccess]
@[simp] theorem State.afterAccess_stopped (m : MemOpnd) (a : Word) : (s.afterAccess m a).stopped = s.stopped := by
  cases m <;> simp [State.afterAccess]
@[simp] theorem State.afterAccess_cycles (m : MemOpnd) (a : Word) : (s.afterAccess m a).cycles = s.cycles := by
  cases m <;> simp [State.afterAccess]
@[simp] theorem State.afterAccess_fault (m : MemOpnd) (a : Word) : (s.afterAccess m a).fault = s.fault := by
  cases m <;> simp [State.afterAccess]
@[simp] theorem State.afterAccess_ifr (m : MemOpnd) (a : Word) : (s.afterAccess m a).ifr = s.ifr := by
  cases m <;> simp [State.afterAccess]
@[simp] theorem State.afterAccess_ie (m : MemOpnd) (a : Word) : (s.afterAccess m a).ie = s.ie := by
  cases m <;> simp [State.afterAccess]
@[simp] theorem State.afterAccess_stepPc (m : MemOpnd) (a : Word) : (s.afterAccess m a).stepPc = s.stepPc := by
  cases m <;> simp [State.afterAccess]
@[simp] theorem State.afterAccess_bus (m : MemOpnd) (a : Word) : (s.afterAccess m a).bus = s.bus := by
  cases m <;> simp [State.afterAccess]
@[simp] theorem State.afterAccess_haltBugPolicy (m : MemOpnd) (a : Word) : (s.afterAccess m a).haltBugPolicy = s.haltBugPolicy := by
  cases m <;> simp [State.afterAccess]
@[simp] theorem State.afterAccess_stopPolicy (m : MemOpnd) (a : Word) : (s.afterAccess m a).stopPolicy = s.stopPolicy := by
  cases m <;> simp [State.afterAccess]
@[simp] theorem State.afterAccess_f (m : MemOpnd) (a : Word) : (s.afterAccess m a).f = s.f := by
  cases m <;> simp [State.afterAccess, State.setPair]
@[simp] theorem State.afterAccess_sp (m : MemOpnd) (a : Word) : (s.afterAccess m a).sp = s.sp := by
  cases m <;> simp [State.afterAccess, State.setPair]
@[simp] theorem State.pushed_a (v : Word) : (s.pushed v).a = s.a := by
  simp [State.pushed]
@[simp] theorem State.pushed_f (v : Word) : (s.pushed v).f = s.f := by
  simp [State.pushed]
@[simp] theorem State.pushed_b (v : Word) : (s.pushed v).b = s.b := by
  simp [State.pushed]
@[simp] theorem State.pushed_c (v : Word) : (s.pushed v).c = s.c := by
  simp [State.pushed]
@[simp] theorem State.pushed_d (v : Word) : (s.pushed v).d = s.d := by
  simp [State.pushed]
@[simp] theorem State.pushed_e (v : Word) : (s.pushed v).e = s.e := by
  simp [State.pushed]
@[simp] theorem State.pushed_h (v : Word) : (s.pushed v).h = s.h := by
  simp [State.pushed]
@[simp] theorem State.pushed_l (v : Word) : (s.pushed v).l = s.l := by
  simp [State.pushed]
@[simp] theorem State.pushed_pc (v : Word) : (s.pushed v).pc = s.pc := by
  simp [State.pushed]
@[simp] theorem State.pushed_ime (v : Word) : (s.pushed v).ime = s.ime := by
  simp [State.pushed]
@[simp] theorem State.pushed_eiPending (v : Word) : (s.pushed v).eiPending = s.eiPending := by
  simp [State.pushed]
@[simp] theorem State.pushed_halted (v : Word) : (s.pushed v).halted = s.halted := by
  simp [State.pushed]
@[simp] theorem State.pushed_haltBug (v : Word) : (s.pushed v).haltBug = s.haltBug := by
  simp [State.pushed]
@[simp] theorem State.pushed_stopped (v : Word) : (s.pushed v).stopped = s.stopped := by
  simp [State.pushed]
@[simp] theorem State.pushed_cycles (v : Word) : (s.pushed v).cycles = s.cycles := by
  simp [State.pushed]
@[simp] theorem State.pushed_fault (v : Word) : (s.pushed v).fault = s.fault := by
  simp [State.pushed]
@[simp] theorem State.pushed_stepPc (v : Word) : (s.pushed v).stepPc = s.stepPc := by
  simp [State.pushed]
@[simp] theorem State.pushed_haltBugPolicy (v : Word) : (s.pushed v).haltBugPolicy = s.haltBugPolicy := by
  simp [State.pushed]
@[simp] theorem State.pushed_stopPolicy (v : Word) : (s.pushed v).stopPolicy = s.stopPolicy := by
  simp [State.pushed]
@[simp] theorem State.popped_a : s.popped.a = s.a := by
  simp [State.popped]
@[simp] theorem State.popped_f : s.popped.f = s.f := by
  simp [State.popped]
@[simp] theorem State.popped_b : s.popped.b = s.b := by
  simp [State.popped]
@[simp] theorem State.popped_c : s.popped.c = s.c := by
  simp [State.popped]
@[simp] theorem State.popped_d : s.popped.d = s.d := by
  simp [State.popped]
@[simp] theorem State.popped_e : s.popped.e = s.e := by
  simp [State.popped]
@[simp] theorem State.popped_h : s.popped.h = s.h := by
  simp [State.popped]
@[simp] theorem State.popped_l : s.popped.l = s.l := by
  simp [State.popped]
@[simp] theorem State.popped_pc : s.popped.pc = s.pc := by
  simp [State.popped]
@[simp] theorem State.popped_ime : s.popped.ime = s.ime := by
  simp [State.popped]
@[simp] theorem State.popped_eiPending : s.popped.eiPending = s.eiPending := by
  simp [State.popped]
@[simp] theorem State.popped_halted : s.popped.halted = s.halted := by
  simp [State.popped]
@[simp] theorem State.popped_haltBug : s.popped.haltBug = s.haltBug := by
  simp [State.popped]
@[simp] theorem State.popped_stopped : s.popped.stopped = s.stopped := by
  simp [State.popped]
@[simp] theorem State.popped_cycles : s.popped.cycles = s.cycles := by
  simp [State.popped]
@[simp] theorem State.popped_fault : s.popped.fault = s.fault := by
  simp [State.popped]
@[simp] theorem State.popped_ifr : s.popped.ifr = s.ifr := by
  simp [State.popped]
@[simp] theorem State.popped_ie : s.popped.ie = s.ie := by
  simp [State.popped]
@[simp] theorem State.popped_stepPc : s.popped.stepPc = s.stepPc := by
  simp [State.popped]
@[simp] theorem State.popped_haltBugPolicy : s.popped.haltBugPolicy = s.haltBugPolicy := by
  simp [State.popped]
@[simp] theorem State.popped_stopPolicy : s.popped.stopPolicy = s.stopPolicy := by
  simp [State.popped]
@[simp] theorem State.afterOpnd_a (o : Opnd8) : (s.afterOpnd o).a = s.a := by
  cases o <;> simp [State.afterOpnd]
@[simp] theorem State.afterOpnd_f (o : Opnd8) : (s.afterOpnd o).f = s.f := by
  cases o <;> simp [State.afterOpnd]
@[simp] theorem State.afterOpnd_b (o : Opnd8) : (s.afterOpnd o).b = s.b := by
  cases o <;> simp [State.afterOpnd]
@[simp] theorem State.afterOpnd_c (o : Opnd8) : (s.afterOpnd o).c = s.c := by
  cases o <;> simp [State.afterOpnd]
@[simp] theorem State.afterOpnd_d (o : Opnd8) : (s.afterOpnd o).d = s.d := by
  cases o <;> simp [State.afterOpnd]
@[simp] theorem State.afterOpnd_e (o : Opnd8) : (s.afterOpnd o).e = s.e := by
  cases o <;> simp [State.afterOpnd]
@[simp] theorem State.afterOpnd_h (o : Opnd8) : (s.afterOpnd o).h = s.h := by
  cases o <;> simp [State.afterOpnd]
@[simp] theorem State.afterOpnd_l (o : Opnd8) : (s.afterOpnd o).l = s.l := by
  cases o <;> simp [State.afterOpnd]
@[simp] theorem State.afterOpnd_sp (o : Opnd8) : (s.afterOpnd o).sp = s.sp := by
  cases o <;> simp [State.afterOpnd]
@[simp] theorem State.afterOpnd_pc (o : Opnd8) : (s.afterOpnd o).pc = s.pc := by
  cases o <;> simp [State.afterOpnd]
@[simp] theorem State.afterOpnd_ime (o : Opnd8) : (s.afterOpnd o).ime = s.ime := by
  cases o <;> simp [State.afterOpnd]
@[simp] theorem State.afterOpnd_eiPending (o : Opnd8) : (s.afterOpnd o).eiPending = s.eiPending := by
  cases o <;> simp [State.afterOpnd]
@[simp] theorem State.afterOpnd_halted (o : Opnd8) : (s.afterOpnd o).halted = s.halted := by
  cases o <;> simp [State.afterOpnd]
@[simp] theorem State.afterOpnd_haltBug (o : Opnd8) : (s.afterOpnd o).haltBug = s.haltBug := by
  cases o <;> simp [State.afterOpnd]
@[simp] theorem State.afterOpnd_stopped (o : Opnd8) : (s.afterOpnd o).stopped = s.stopped := by
  cases o <;> simp [State.afterOpnd]
@[simp] theorem State.afterOpnd_cycles (o : Opnd8) : (s.afterOpnd o).cycles = s.cycles := by
  cases o <;> simp [State.afterOpnd]
@[simp] theorem State.afterOpnd_fault (o : Opnd8) : (s.afterOpnd o).fault = s.fault := by
  cases o <;> simp [State.afterOpnd]
@[simp] theorem State.afterOpnd_ifr (o : Opnd8) : (s.afterOpnd o).ifr = s.ifr := by
  cases o <;> simp [State.afterOpnd]
@[simp] theorem State.afterOpnd_ie (o : Opnd8) : (s.afterOpnd o).ie = s.ie := by
  cases o <;> simp [State.afterOpnd]
@[simp] theorem State.afterOpnd_stepPc (o : Opnd8) : (s.afterOpnd o).stepPc = s.stepPc := by
  cases o <;> simp [State.afterOpnd]
@[simp] theorem State.afterOpnd_haltBugPolicy (o : Opnd8) : (s.afterOpnd o).haltBugPolicy = s.haltBugPolicy := by
  cases o <;> simp [State.afterOpnd]
@[simp] theorem State.afterOpnd_stopPolicy (o : Opnd8) : (s.afterOpnd o).stopPolicy = s.stopPolicy := by
  cases o <;> simp [State.afterOpnd]
@[simp] theorem State.afterSrc_a (o : Src8) : (s.afterSrc o).a = s.a := by
  cases o <;> simp [State.afterSrc]
@[simp] theorem State.afterSrc_f (o : Src8) : (s.afterSrc o).f = s.f := by
  cases o <;> simp [State.afterSrc]
@[simp] theorem State.afterSrc_b (o : Src8) : (s.afterSrc o).b = s.b := by
  cases o <;> simp [State.afterSrc]
@[simp] theorem State.afterSrc_c (o : Src8) : (s.afterSrc o).c = s.c := by
  cases o <;> simp [State.afterSrc]
@[simp] theorem State.afterSrc_d (o : Src8) : (s.afterSrc o).d = s.d := by
  cases o <;> simp [State.afterSrc]
@[simp] theorem State.afterSrc_e (o : Src8) : (s.afterSrc o).e = s.e := by
  cases o <;> simp [State.afterSrc]
@[simp] theorem State.afterSrc_h (o : Src8) : (s.afterSrc o).h = s.h := by
  cases o <;> simp [State.afterSrc]
@[simp] theorem State.afterSrc_l (o : Src8) : (s.afterSrc o).l = s.l := by
  cases o <;> simp [State.afterSrc]
@[simp] theorem State.afterSrc_sp (o : Src8) : (s.afterSrc o).sp = s.sp := by
  cases o <;> simp [State.afterSrc]
@[simp] theorem State.afterSrc_pc (o : Src8) : (s.afterSrc o).pc = s.pc := by
  cases o <;> simp [State.afterSrc]
@[simp] theorem State.afterSrc_ime (o : Src8) : (s.afterSrc o).ime = s.ime := by
  cases o <;> simp [State.afterSrc]
@[simp] theorem State.afterSrc_eiPending (o : Src8) : (s.afterSrc o).eiPending = s.eiPending := by
  cases o <;> simp [State.afterSrc]
@[simp] theorem State.afterSrc_halted (o : Src8) : (s.afterSrc o).halted = s.halted := by
  cases o <;> simp [State.afterSrc]
@[simp] theorem State.afterSrc_haltBug (o : Src8) : (s.afterSrc o).haltBug = s.haltBug := by
  cases o <;> simp [State.afterSrc]
@[simp] theorem State.afterSrc_stopped (o : Src8) : (s.afterSrc o).stopped = s.stopped := by
  cases o <;> simp [State.afterSrc]
@[simp] theorem State.afterSrc_cycles (o : Src8) : (s.afterSrc o).cycles = s.cycles := by
  cases o <;> simp [State.afterSrc]
@[simp] theorem State.afterSrc_fault (o : Src8) : (s.afterSrc o).fault = s.fault := by
  cases o <;> simp [State.afterSrc]
@[simp] theorem State.afterSrc_ifr (o : Src8) : (s.afterSrc o).ifr = s.ifr := by
  cases o <;> simp [State.afterSrc]
@[simp] theorem State.afterSrc_ie (o : Src8) : (s.afterSrc o).ie = s.ie := by
  cases o <;> simp [State.afterSrc]
@[simp] theorem State.afterSrc_stepPc (o : Src8) : (s.afterSrc o).stepPc = s.stepPc := by
  cases o <;> simp [State.afterSrc]
@[simp] theorem State.afterSrc_haltBugPolicy (o : Src8) : (s.afterSrc o).haltBugPolicy = s.haltBugPolicy := by
  cases o <;> simp [State.afterSrc]
@[simp] theorem State.afterSrc_stopPolicy (o : Src8) : (s.afterSrc o).stopPolicy = s.stopPolicy := by
  cases o <;> simp [State.afterSrc]
@[simp] theorem State.afterOpnd_unset (o : Opnd8) : (s.afterOpnd o).unset = s.unset := by
  cases o <;> simp [State.afterOpnd]
@[simp] theorem State.afterOpnd_reg (o : Opnd8) (q : Reg8) : (s.afterOpnd o).reg q = s.reg q := by
  cases o <;> simp [State.afterOpnd]
@[simp] theorem State.afterOpnd_flags (o : Opnd8) : (s.afterOpnd o).flags = s.flags := by
  cases o <;> simp [State.afterOpnd]
@[simp] theorem State.afterOpnd_pair (o : Opnd8) (p : Reg16) : (s.afterOpnd o).pair p = s.pair p := by
  cases o <;> simp [State.afterOpnd]
@[simp] theorem State.afterSrc_unset (o : Src8) : (s.afterSrc o).unset = s.unset := by
  cases o <;> simp [State.afterSrc]
@[simp] theorem State.afterSrc_reg (o : Src8) (q : Reg8) : (s.afterSrc o).reg q = s.reg q := by
  cases o <;> simp [State.afterSrc]
@[simp] theorem State.afterSrc_flags (o : Src8) : (s.afterSrc o).flags = s.flags := by
  cases o <;> simp [State.afterSrc]
@[simp] theorem State.afterSrc_pair (o : Src8) (p : Reg16) : (s.afterSrc o).pair p = s.pair p := by
  cases o <;> simp [State.afterSrc]
@[simp] theorem State.popped_sp : s.popped.sp = s.sp + 2#16 := rfl
@[simp] theorem State.popped_reg (q : Reg8) : s.popped.reg q = s.reg q := by simp [State.popped]
@[simp] theorem State.popped_flags : s.popped.flags = s.flags := by simp [State.popped]
@[simp] theorem State.pushed_sp (v : Word) : (s.pushed v).sp = s.sp - 2#16 := rfl

/-! ### What the updates do to the view of the address space -/

@[simp] theorem State.setReg_byteAt (r : Reg8) (v : Byte) (x : Word) : (s.setReg r v).byteAt x = s.byteAt x := by
  simp [State.byteAt]
@[simp] theorem State.setReg_canRead (r : Reg8) (v : Byte) (x : Word) : (s.setReg r v).canRead x = s.canRead x := by
  simp [State.canRead]
@[simp] theorem State.setReg_canWrite (r : Reg8) (v : Byte) (x : Word) (w : Byte) : (s.setReg r v).canWrite x w = s.canWrite x w := by
  simp [State.canWrite]
theorem State.setReg_afterRead (r : Reg8) (v : Byte) (x : Word) :
    (s.setReg r v).afterRead x = (s.afterRead x).setReg r v := by
  unfold State.afterRead; split <;> [rfl; (split <;> cases r <;> rfl)]
theorem State.setReg_storeByte (r : Reg8) (v : Byte) (x : Word) (w : Byte) :
    (s.setReg r v).storeByte x w = (s.storeByte x w).setReg r v := by
  unfold State.storeByte; split <;> [(cases r <;> rfl); (split <;> cases r <;> rfl)]
@[simp] theorem State.setF_byteAt (v : Byte) (x : Word) : (s.setF v).byteAt x = s.byteAt x := by
  simp [State.byteAt]
@[simp] theorem State.setF_canRead (v : Byte) (x : Word) : (s.setF v).canRead x = s.canRead x := by
  simp [State.canRead]
@[simp] theorem State.setF_canWrite (v : Byte) (x : Word) (w : Byte) : (s.setF v).canWrite x w = s.canWrite x w := by
  simp [State.canWrite]
theorem State.setF_afterRead (v : Byte) (x : Word) :
    (s.setF v).afterRead x = (s.afterRead x).setF v := by
  unfold State.afterRead; split <;> [rfl; (split <;> rfl)]
theorem State.setF_storeByte (v : Byte) (x : Word) (w : Byte) :
    (s.setF v).storeByte x w = (s.storeByte x w).setF v := by
  unfold State.storeByte; split <;> [rfl; (split <;> rfl)]
@[simp] theorem State.setSp_byteAt (v : Word) (x : Word) : (s.setSp v).byteAt x = s.byteAt x := by
  simp [State.byteAt]
@[simp] theorem State.setSp_canRead (v : Word) (x : Word) : (s.setSp v).canRead x = s.canRead x := by
  simp [State.canRead]
@[simp] theorem State.setSp_canWrite (v : Word) (x : Word) (w : Byte) : (s.setSp v).canWrite x w = s.canWrite x w := by
  simp [State.canWrite]
theorem State.setSp_afterRead (v : Word) (x : Word) :
    (s.setSp v).afterRead x = (s.afterRead x).setSp v := by
  unfold State.afterRead; split <;> [rfl; (split <;> rfl)]
theorem State.setSp_storeByte (v : Word) (x : Word) (w : Byte) :
    (s.setSp v).storeByte x w = (s.storeByte x w).setSp v := by
  unfold State.storeByte; split <;> [rfl; (split <;> rfl)]
@[simp] theorem State.setPc_byteAt (v : Word) (x : Word) : (s.setPc v).byteAt x = s.byteAt x := by
  simp [State.byteAt]
@[simp] theorem State.setPc_canRead (v : Word) (x : Word) : (s.setPc v).canRead x = s.canRead x := by
  simp [State.canRead]
@[simp] theorem State.setPc_canWrite (v : Word) (x : Word) (w : Byte) : (s.setPc v).canWrite x w = s.canWrite x w := by
  simp [State.canWrite]
theorem State.setPc_afterRead (v : Word) (x : Word) :
    (s.setPc v).afterRead x = (s.afterRead x).setPc v := by
  unfold State.afterRead; split <;> [rfl; (split <;> rfl)]
theorem State.setPc_storeByte (v : Word) (x : Word) (w : Byte) :
    (s.setPc v).storeByte x w = (s.storeByte x w).setPc v := by
  unfold State.storeByte; split <;> [rfl; (split <;> rfl)]
@[simp] theorem State.tick_byteAt (n : Nat) (x : Word) : (s.tick n).byteAt x = s.byteAt x := by
  simp [State.byteAt]
@[simp] theorem State.tick_canRead (n : Nat) (x : Word) : (s.tick n).canRead x = s.canRead x := by
  simp [State.canRead]
@[simp] theorem State.tick_canWrite (n : Nat) (x : Word) (w : Byte) : (s.tick n).canWrite x w = s.canWrite x w := by
  simp [State.canWrite]
theorem State.tick_afterRead (n : Nat) (x : Word) :
    (s.tick n).afterRead x = (s.afterRead x).tick n := by
  unfold State.afterRead; split <;> [rfl; (split <;> rfl)]
theorem State.tick_storeByte (n : Nat) (x : Word) (w : Byte) :
    (s.tick n).storeByte x w = (s.storeByte x w).tick n := by
  unfold State.storeByte; split <;> [rfl; (split <;> rfl)]

end Sys2Proof.Machine
end

