-- ==== Sys2Proof/Laws/Memory.lean ====
section
/-! SUPPORT. The laws of the memory list: read after write, other addresses left alone, and the canonical form kept by every
operation. -/

namespace Sys2Proof.Machine

/-- Every entry of a canonical list lies at or above its bound. -/
theorem Memory.wfFrom_mono {m : Memory} : ∀ {lo hi : Nat}, lo ≤ hi → m.wfFrom hi = true → m.wfFrom lo = true := by
  cases m with
  | nil => intros; rfl
  | cons c rest =>
    obtain ⟨k, v⟩ := c
    intro lo hi hle h
    simp only [Memory.wfFrom, Bool.and_eq_true, decide_eq_true_eq] at h ⊢
    exact ⟨⟨⟨le_trans hle h.1.1.1, h.1.1.2⟩, h.1.2⟩, h.2⟩

/-- Below the bound of a canonical list every address reads as the fill byte. -/
theorem Memory.read_below {m : Memory} : ∀ {lo a : Nat}, m.wfFrom lo = true → a < lo → m.read a = Config.memFill := by
  induction m with
  | nil => intros; rfl
  | cons c rest ih =>
    obtain ⟨k, v⟩ := c
    intro lo a h hlt
    simp only [Memory.wfFrom, Bool.and_eq_true, decide_eq_true_eq] at h
    have hk : k ≠ a := by omega
    simp only [Memory.read, hk, if_false]
    exact ih h.2 (by omega)

/-- A read of the address just written gives the byte written. -/
theorem Memory.read_write_same {m : Memory} : ∀ {lo a : Nat} (v : Byte), m.wfFrom lo = true →
    (m.write a v).read a = v := by
  induction m with
  | nil =>
    intro lo a v _
    by_cases hv : v = Config.memFill <;> simp [Memory.write, Memory.read, hv]
  | cons c rest ih =>
    obtain ⟨k, w⟩ := c
    intro lo a v h
    simp only [Memory.wfFrom, Bool.and_eq_true, decide_eq_true_eq] at h
    simp only [Memory.write]
    split
    · rename_i hak
      split
      · rename_i hv
        have hk : k ≠ a := by omega
        simp only [Memory.read, hk, if_false, hv]
        exact Memory.read_below h.2 (by omega)
      · simp [Memory.read]
    · split
      · rename_i hak
        split
        · rename_i hv
          rw [hv]
          exact Memory.read_below h.2 (by omega)
        · simp [Memory.read]
      · have hk : k ≠ a := by omega
        simp only [Memory.read, hk, if_false]
        exact ih v h.2

/-- A write leaves every other address alone. -/
theorem Memory.read_write_other {m : Memory} : ∀ {a b : Nat} (v : Byte), b ≠ a → (m.write a v).read b = m.read b := by
  induction m with
  | nil =>
    intro a b v hne
    have : a ≠ b := fun h => hne h.symm
    by_cases hv : v = Config.memFill <;> simp [Memory.write, Memory.read, hv, this]
  | cons c rest ih =>
    obtain ⟨k, w⟩ := c
    intro a b v hne
    have hab : a ≠ b := fun h => hne h.symm
    simp only [Memory.write]
    split
    · split <;> simp [Memory.read, hab]
    · split
      · rename_i hk
        have hkb : k ≠ b := by omega
        split <;> simp [Memory.read, hkb, hab]
      · simp only [Memory.read]
        rw [ih v hne]

/-- A write keeps the canonical form above a bound. -/
theorem Memory.wfFrom_write {m : Memory} : ∀ {lo a : Nat} (v : Byte), lo ≤ a → a < 65536 → m.wfFrom lo = true →
    (m.write a v).wfFrom lo = true := by
  induction m with
  | nil =>
    intro lo a v hle hlt _
    by_cases hv : v = Config.memFill <;> simp [Memory.write, Memory.wfFrom, hv, hle, hlt]
  | cons c rest ih =>
    obtain ⟨k, w⟩ := c
    intro lo a v hle hlt h
    have h' := h
    simp only [Memory.wfFrom, Bool.and_eq_true, decide_eq_true_eq] at h
    obtain ⟨⟨⟨h1, h2⟩, h3⟩, h4⟩ := h
    simp only [Memory.write]
    split
    · rename_i hak
      split
      · exact h'
      · rename_i hv
        simp only [Memory.wfFrom, Bool.and_eq_true, decide_eq_true_eq]
        exact ⟨⟨⟨hle, hlt⟩, hv⟩, ⟨⟨by omega, h2⟩, h3⟩, h4⟩
    · split
      · rename_i hak
        split
        · exact Memory.wfFrom_mono (by omega) h4
        · rename_i hv
          simp only [Memory.wfFrom, Bool.and_eq_true, decide_eq_true_eq]
          exact ⟨⟨⟨hle, hlt⟩, hv⟩, by rw [hak]; exact h4⟩
      · simp only [Memory.wfFrom, Bool.and_eq_true, decide_eq_true_eq]
        exact ⟨⟨⟨h1, h2⟩, h3⟩, ih v (by omega) hlt h4⟩

/-- A write to an address of the space keeps the canonical form. -/
theorem Memory.wf_write {m : Memory} {a : Nat} (v : Byte) (ha : a < 65536) (h : m.wf = true) :
    (m.write a v).wf = true :=
  Memory.wfFrom_write v (Nat.zero_le a) ha h

/-! ### The bus (20_memory.md R51, R52, R74) -/

/-- A read changes nothing of RAM_BUS. -/
@[simp] theorem Bus.readByte_ram_snd (r : RamBus) (a : Word) : ((Bus.ram r).readByte a).2 = .ram r := rfl

theorem Bus.wf_readByte (b : Bus) (a : Word) (h : b.wf = true) : (b.readByte a).2.wf = true := by
  cases b with
  | ram r => exact h
  | other n => rfl

theorem Bus.wf_writeByte (b : Bus) (a : Word) (v : Byte) (h : b.wf = true) : (b.writeByte a v).2.wf = true := by
  cases b with
  | ram r =>
    simp only [Bus.writeByte]
    split
    · exact h
    · exact Memory.wf_write v a.isLt h
  | other n => rfl

theorem Bus.sameMap_refl (b : Bus) : b.sameMap b := by cases b <;> simp [Bus.sameMap]

theorem Bus.sameMap_trans {b c d : Bus} (h1 : b.sameMap c) (h2 : c.sameMap d) : b.sameMap d := by
  cases b <;> cases c <;> cases d <;> simp_all [Bus.sameMap]

/-- A read keeps the bus and its permissions. -/
theorem Bus.sameMap_readByte (b : Bus) (a : Word) : b.sameMap (b.readByte a).2 := by
  cases b <;> simp [Bus.readByte, Bus.sameMap]

/-- A write keeps the bus and its permissions. -/
theorem Bus.sameMap_writeByte (b : Bus) (a : Word) (v : Byte) : b.sameMap (b.writeByte a v).2 := by
  cases b with
  | ram r => simp only [Bus.writeByte]; split <;> simp [Bus.sameMap]
  | other n => simp [Bus.writeByte, Bus.sameMap]

/-- A CPU read keeps the canonical form. -/
theorem State.afterRead_wf (s : State) (a : Word) (h : s.bus.wf = true) : (s.afterRead a).bus.wf = true := by
  unfold State.afterRead
  split
  · exact h
  · split
    · exact h
    · exact s.bus.wf_readByte a h

/-- A CPU write keeps the canonical form. -/
theorem State.storeByte_wf (s : State) (a : Word) (v : Byte) (h : s.bus.wf = true) :
    (s.storeByte a v).bus.wf = true := by
  unfold State.storeByte
  split
  · exact h
  · split
    · exact h
    · exact s.bus.wf_writeByte a v h

theorem State.sameMap_afterRead (s : State) (a : Word) : s.bus.sameMap (s.afterRead a).bus := by
  unfold State.afterRead
  split
  · exact s.bus.sameMap_refl
  · split
    · exact s.bus.sameMap_refl
    · exact s.bus.sameMap_readByte a

theorem State.sameMap_storeByte (s : State) (a : Word) (v : Byte) : s.bus.sameMap (s.storeByte a v).bus := by
  unfold State.storeByte
  split
  · exact s.bus.sameMap_refl
  · split
    · exact s.bus.sameMap_refl
    · exact s.bus.sameMap_writeByte a v

/-! ### The view of the address space on RAM_BUS (20_memory.md R54, R55, R74) -/

/-- On RAM_BUS a read changes nothing. -/
theorem State.afterRead_ram {s : State} {r : RamBus} (h : s.bus = .ram r) (a : Word) : s.afterRead a = s := by
  unfold State.afterRead
  rw [h]
  split
  · rfl
  · split
    · rfl
    · rw [Bus.readByte_ram_snd, ← h]; rfl

/-- On RAM_BUS an address of the bus reads as the byte the array holds. -/
theorem State.byteAt_ram {s : State} {r : RamBus} (h : s.bus = .ram r) {a : Word} (h1 : a ≠ ifAddr) (h2 : a ≠ ieAddr) :
    s.byteAt a = r.mem.read a.toNat := by
  simp only [State.byteAt, h1, h2, if_false, h, Bus.readByte, Bus.peek]
  split <;> rfl

/-- On RAM_BUS a CPU write changes the array and nothing else of the bus. -/
theorem State.storeByte_ram {s : State} {r : RamBus} (h : s.bus = .ram r) (a : Word) (v : Byte) :
    ∃ m, (s.storeByte a v).bus = .ram { r with mem := m } ∧
      (r.mem.wf = true → m.wf = true) ∧
      (∀ b : Word, b ≠ a → m.read b.toNat = r.mem.read b.toNat) ∧
      (a ≠ ifAddr → a ≠ ieAddr → s.canWrite a v = true → r.mem.wf = true → m.read a.toNat = v) := by
  unfold State.storeByte State.canWrite
  split
  · exact ⟨r.mem, h, id, fun _ _ => rfl, fun hn => absurd ‹_› hn⟩
  · split
    · exact ⟨r.mem, h, id, fun _ _ => rfl, fun _ hn => absurd ‹_› hn⟩
    · rename_i h1 h2
      simp only [h, Bus.writeByte, State.setBus_bus, h1, h2, decide_false, Bool.false_or]
      cases inRanges r.writeFails a with
      | true => exact ⟨r.mem, rfl, id, fun _ _ => rfl, by simp⟩
      | false =>
        exact ⟨_, rfl, Memory.wf_write v a.isLt,
          fun b hb => Memory.read_write_other v fun e => hb (BitVec.eq_of_toNat_eq e),
          fun _ _ _ hw => Memory.read_write_same v hw⟩

/-- On RAM_BUS a CPU write leaves every other address reading as before. -/
theorem State.byteAt_storeByte_other {s : State} {r : RamBus} (h : s.bus = .ram r) {a b : Word} (v : Byte) (hn : b ≠ a) :
    (s.storeByte a v).byteAt b = s.byteAt b := by
  by_cases hb : b = ifAddr
  · subst hb
    have ha : ¬a = ifAddr := fun e => hn e.symm
    simp only [State.byteAt, if_true, State.storeByte, ha, if_false]
    split <;> rfl
  · by_cases hb' : b = ieAddr
    · subst hb'
      have ha : ¬a = ieAddr := fun e => hn e.symm
      simp only [State.byteAt, show ¬ieAddr = ifAddr by decide, if_true, if_false, State.storeByte, ha]
      split <;> rfl
    · obtain ⟨m, hm, _, ho, _⟩ := s.storeByte_ram h a v
      rw [State.byteAt_ram hm hb hb', State.byteAt_ram h hb hb']
      exact ho b hn

/-- On RAM_BUS a byte written to the bus or to IE reads back. -/
theorem State.byteAt_storeByte_same {s : State} {r : RamBus} (h : s.bus = .ram r) {a : Word} {v : Byte}
    (hwf : r.mem.wf = true) (ha : a ≠ ifAddr) (hw : s.canWrite a v = true) : (s.storeByte a v).byteAt a = v := by
  by_cases ha' : a = ieAddr
  · subst ha'
    simp [State.storeByte, State.byteAt, show ieAddr ≠ ifAddr by decide]
  · obtain ⟨m, hm, _, _, hs⟩ := s.storeByte_ram h a v
    rw [State.byteAt_ram hm ha ha']
    exact hs ha ha' hw hwf

/-- A byte written to IF reads back with its top three bits set (20_memory.md R54). -/
theorem State.byteAt_storeByte_if (s : State) (v : Byte) : (s.storeByte ifAddr v).byteAt ifAddr = v ||| 0xE0#8 := by
  simp only [State.storeByte, State.byteAt, if_true, State.setIf_ifr]
  clear s
  revert v
  decide

/-- On RAM_BUS a CPU write never makes an address unreadable. -/
theorem State.canRead_storeByte {s : State} {r : RamBus} (hr : s.bus = .ram r) {a b : Word} (v : Byte)
    (h : s.canRead b = true) : (s.storeByte a v).canRead b = true := by
  obtain ⟨m, hm, -, -, -⟩ := s.storeByte_ram hr a v
  revert h
  unfold State.canRead
  split
  · unfold State.storeByte
    split
    · intro _; rfl
    · split <;> exact id
  · split
    · unfold State.storeByte
      split
      · exact id
      · split
        · intro _; rfl
        · exact id
    · rw [hm, hr]
      simp only [Bus.readByte]
      split <;> simp

/-- On RAM_BUS whether a write is taken depends neither on the byte nor on what was written before. -/
theorem State.canWrite_storeByte {s : State} {r : RamBus} (hr : s.bus = .ram r) (a b : Word) (v w x : Byte) :
    (s.storeByte a v).canWrite b w = s.canWrite b x := by
  obtain ⟨m, hm, -, -, -⟩ := s.storeByte_ram hr a v
  unfold State.canWrite
  rw [hm, hr]
  simp only [Bus.writeByte]
  split <;> rfl

/-- The pair round trip of word16 with its two halves (10_state.md R22). -/
@[simp] theorem hiByte_word16 (h l : Byte) : hiByte (word16 h l) = h := by
  unfold hiByte word16
  ext i hi
  rw [BitVec.getElem_extractLsb', BitVec.getLsbD_append]
  simp [BitVec.getLsbD_eq_getElem hi]

@[simp] theorem loByte_word16 (h l : Byte) : loByte (word16 h l) = l := by
  unfold loByte word16
  ext i hi
  rw [BitVec.getElem_extractLsb', BitVec.getLsbD_append]
  simp [hi]

@[simp] theorem word16_hi_lo (v : Word) : word16 (hiByte v) (loByte v) = v := by
  unfold word16 hiByte loByte
  apply BitVec.eq_of_toNat_eq
  rw [BitVec.toNat_append]
  simp only [BitVec.extractLsb'_toNat]
  rw [Nat.shiftLeft_eq, Nat.mul_comm, ← Nat.two_pow_add_eq_or_of_lt (by omega) _]
  simp only [Nat.shiftRight_eq_div_pow]
  have := v.isLt
  omega

/-- `(v + 1) mod 2^16` as bit-vector addition. -/
theorem inc16_eq (v : Word) : inc16 v = v + 1#16 := by
  unfold inc16
  apply BitVec.eq_of_toNat_eq
  simp

/-- `(v − 1) mod 2^16` as bit-vector subtraction. -/
theorem dec16_eq (v : Word) : dec16 v = v - 1#16 := by
  unfold dec16
  apply BitVec.eq_of_toNat_eq
  rw [BitVec.toNat_ofInt, BitVec.toNat_sub]
  have := v.isLt
  simp
  omega

/-- `(v + 1) mod 2^8` as bit-vector addition. -/
theorem inc8_eq (v : Byte) : inc8 v = v + 1#8 := by
  revert v; decide

/-- `(v − 1) mod 2^8` as bit-vector subtraction. -/
theorem dec8_eq (v : Byte) : dec8 v = v - 1#8 := by
  revert v; decide

end Sys2Proof.Machine
end

