-- ==== Sys2Proof/Laws/Decode.lean ====
section
/-! SUPPORT. What the two opcode tables give, row by row: the encoder writes back the byte a row was decoded from. -/

namespace Sys2Proof.Machine

/-- A fact about every byte follows from its 256 instances. -/
theorem forall_byte {P : Byte → Prop} (h : ∀ n : Fin 256, P (BitVec.ofFin n)) (b : Byte) : P b := h b.toFin

/-- Every row of the CB table encodes to the prefix and its own number (30_encoding.md R113). -/
theorem encode_decodeCb (op2 : Byte) : encode (decodeCb op2) = [0xCB#8, op2] := by
  revert op2
  refine forall_byte fun n => ?_
  fin_cases n <;> rfl

/-- Every row of the base table encodes to its own number and the immediate bytes its length asks for (30_encoding.md
R112). -/
theorem encode_decodeBase (op b1 b2 : Byte) (h : op ≠ 0xCB#8) :
    encode (decodeBase op b1 b2) =
      (match baseLength op with
      | 1 => [op]
      | 2 => [op, b1]
      | _ => [op, b1, b2]) := by
  have h1 : loByte (word16 b2 b1) = b1 := loByte_word16 b2 b1
  have h2 : hiByte (word16 b2 b1) = b2 := hiByte_word16 b2 b1
  generalize hn : word16 b2 b1 = n at h1 h2
  unfold decodeBase
  rw [hn]
  clear hn
  revert op
  refine forall_byte fun k hk => ?_
  fin_cases k <;>
    first
    | rfl
    | (subst h1 h2; rfl)

/-- Every row of the base table but the CB byte is a well-formed instruction. -/
theorem decodeBase_wellFormed (op b1 b2 : Byte) (h : op ≠ 0xCB#8) : (decodeBase op b1 b2).wellFormed = true := by
  unfold decodeBase
  generalize word16 b2 b1 = n
  revert op
  refine forall_byte fun k hk => ?_
  fin_cases k <;>
    first
    | rfl
    | exact absurd rfl hk

/-- Every row of the CB table is a well-formed instruction. -/
theorem decodeCb_wellFormed (op2 : Byte) : (decodeCb op2).wellFormed = true := by
  revert op2
  refine forall_byte fun n => ?_
  fin_cases n <;> rfl

/-- The first byte of a row's encoding is the opcode it was decoded from. -/
theorem head_encode_decodeBase (op b1 b2 : Byte) (h : op ≠ 0xCB#8) :
    (encode (decodeBase op b1 b2)).head? = some op := by
  rw [encode_decodeBase op b1 b2 h]
  split <;> rfl

/-- The length in a row's descriptor does not depend on the immediate bytes. -/
theorem length_decodeBase (op b1 b2 : Byte) : (decodeBase op b1 b2).descriptor.length = baseLength op := by
  unfold baseLength decodeBase
  generalize word16 b2 b1 = n
  generalize word16 0#8 0#8 = m
  revert op
  refine forall_byte fun k => ?_
  fin_cases k <;> rfl

/-- No instruction is longer than three bytes, and none is empty (30_encoding.md R80). -/
theorem baseLength_range (op : Byte) : baseLength op = 1 ∨ baseLength op = 2 ∨ baseLength op = 3 := by
  revert op
  refine forall_byte fun k => ?_
  fin_cases k <;> decide

/-- The bytes that decode, and to what: the prefix with its second byte, or an opcode with the bytes its length asks for
(30_encoding.md R80, R96). -/
theorem decode_ok_iff (bytes : List Byte) (i : Instr) (rest : List Byte) :
    decode bytes = .ok (i, rest) ↔
      (∃ op2, bytes = 0xCB#8 :: op2 :: rest ∧ i = decodeCb op2) ∨
        (∃ op, op ≠ 0xCB#8 ∧ baseLength op = 1 ∧ bytes = op :: rest ∧ i = decodeBase op 0#8 0#8) ∨
        (∃ op b1, op ≠ 0xCB#8 ∧ baseLength op = 2 ∧ bytes = op :: b1 :: rest ∧ i = decodeBase op b1 0#8) ∨
        (∃ op b1 b2, op ≠ 0xCB#8 ∧ baseLength op = 3 ∧ bytes = op :: b1 :: b2 :: rest ∧ i = decodeBase op b1 b2) := by
  constructor
  · intro h
    cases bytes with
    | nil => simp [decode] at h
    | cons op tl =>
      by_cases hc : op = 0xCB#8
      · subst hc
        cases tl with
        | nil => simp [decode] at h
        | cons op2 tl =>
          simp only [decode, if_true, Except.ok.injEq, Prod.mk.injEq] at h
          exact .inl ⟨op2, by rw [h.2], h.1.symm⟩
      · simp only [decode, hc, if_false] at h
        rcases baseLength_range op with hl | hl | hl
        · simp only [hl, Except.ok.injEq, Prod.mk.injEq] at h
          exact .inr (.inl ⟨op, hc, hl, by rw [h.2], h.1.symm⟩)
        · cases tl with
          | nil => simp [hl] at h
          | cons b1 tl =>
            simp only [hl, Except.ok.injEq, Prod.mk.injEq] at h
            exact .inr (.inr (.inl ⟨op, b1, hc, hl, by rw [h.2], h.1.symm⟩))
        · match tl, h with
          | [], h => simp [hl] at h
          | [_], h => simp [hl] at h
          | b1 :: b2 :: tl, h =>
            simp only [hl, Except.ok.injEq, Prod.mk.injEq] at h
            exact .inr (.inr (.inr ⟨op, b1, b2, hc, hl, by rw [h.2], h.1.symm⟩))
  · rintro (⟨op2, rfl, rfl⟩ | ⟨op, hc, hl, rfl, rfl⟩ | ⟨op, b1, hc, hl, rfl, rfl⟩ | ⟨op, b1, b2, hc, hl, rfl, rfl⟩)
    · rfl
    · simp [decode, hc, hl]
    · simp [decode, hc, hl]
    · simp [decode, hc, hl]

end Sys2Proof.Machine
end

