-- ==== Sys2Proof/Laws/Ops.lean ====
section
/-! SUPPORT. What each shared operation can do, said once. `…_ok_iff` says exactly when an operation completes, with which
value and in which state; `Op.Guards` carries an
invariant of the state, and a property of the faults raised, through a whole operation. -/

namespace Sys2Proof.Machine

/-! ### The steps of pseudocode -/

@[simp] theorem Op.bind_ok_iff {α β : Type} (x : Op α) (f : α → Op β) (s u : State) (b : β) :
    (x >>= f) s = .ok b u ↔ ∃ a t, x s = .ok a t ∧ f a t = .ok b u := by
  show EStateM.bind x f s = .ok b u ↔ _
  unfold EStateM.bind
  cases x s <;> simp

/-- After a first operation that completes, the rest goes on from its state. -/
theorem Op.bind_of_ok {α β : Type} {x : Op α} {s t : State} {a : α} (h : x s = .ok a t) (f : α → Op β) :
    (x >>= f) s = f a t := by
  show EStateM.bind x f s = _
  unfold EStateM.bind
  rw [h]

/-- The rest of a piece of pseudocode is not run after a fault. -/
theorem Op.bind_of_error {α β : Type} {x : Op α} {s t : State} {e : Fault} (h : x s = .error e t) (f : α → Op β) :
    (x >>= f) s = .error e t := by
  show EStateM.bind x f s = _
  unfold EStateM.bind
  rw [h]

@[simp] theorem Op.bind_error_iff {α β : Type} (x : Op α) (f : α → Op β) (s u : State) (e : Fault) :
    (x >>= f) s = .error e u ↔ x s = .error e u ∨ ∃ a t, x s = .ok a t ∧ f a t = .error e u := by
  show EStateM.bind x f s = .error e u ↔ _
  unfold EStateM.bind
  cases x s <;> simp

@[simp] theorem Op.map_ok_iff {α β : Type} (g : α → β) (x : Op α) (s u : State) (b : β) :
    (g <$> x) s = .ok b u ↔ ∃ a, x s = .ok a u ∧ b = g a := by
  show EStateM.map g x s = .ok b u ↔ _
  unfold EStateM.map
  cases x s with
  | error => simp
  | ok a t =>
    constructor
    · intro h; cases h; exact ⟨a, rfl, rfl⟩
    · rintro ⟨a', h, rfl⟩; cases h; rfl

@[simp] theorem Op.pure_ok_iff {α : Type} (a b : α) (s t : State) :
    (pure a : Op α) s = .ok b t ↔ b = a ∧ t = s := by
  show EStateM.Result.ok a s = .ok b t ↔ _
  constructor
  · intro h; cases h; exact ⟨rfl, rfl⟩
  · rintro ⟨rfl, rfl⟩; rfl

@[simp] theorem Op.pure_error {α : Type} (a : α) (s t : State) (e : Fault) :
    (pure a : Op α) s = .error e t ↔ False := by
  show EStateM.Result.ok a s = .error e t ↔ _
  simp

@[simp] theorem Op.state_ok_iff (s t u : State) : Op.state s = .ok t u ↔ t = s ∧ u = s := by
  unfold Op.state
  constructor
  · intro h; cases h; exact ⟨rfl, rfl⟩
  · rintro ⟨rfl, rfl⟩; rfl

@[simp] theorem Op.state_error (s u : State) (e : Fault) : Op.state s = .error e u ↔ False := by
  unfold Op.state; simp

@[simp] theorem Op.update_ok_iff (g : State → State) (s t : State) (x : Unit) :
    Op.update g s = .ok x t ↔ t = g s := by
  unfold Op.update
  constructor
  · intro h; cases h; rfl
  · rintro rfl; rfl

@[simp] theorem Op.update_error (g : State → State) (s t : State) (e : Fault) :
    Op.update g s = .error e t ↔ False := by
  unfold Op.update; simp

@[simp] theorem Op.raise_ok {α : Type} (f : State → Fault) (s t : State) (a : α) :
    (Op.raise f : Op α) s = .ok a t ↔ False := by
  unfold Op.raise; simp

@[simp] theorem Op.raise_error_iff {α : Type} (f : State → Fault) (s t : State) (e : Fault) :
    (Op.raise f : Op α) s = .error e t ↔ e = f s ∧ t = s := by
  unfold Op.raise
  constructor
  · intro h; cases h; exact ⟨rfl, rfl⟩
  · rintro ⟨rfl, rfl⟩; rfl

/-- `runOp` answers a next state exactly where the pseudocode completes. -/
theorem runOp_next_iff (op : Op Nat) (s u : State) :
    runOp op s = .next u ↔ ∃ n t, op s = .ok n t ∧ u = t.tick n := by
  unfold runOp
  cases op s with
  | ok n t =>
    constructor
    · intro h; cases h; exact ⟨n, t, rfl, rfl⟩
    · rintro ⟨n', t', h, rfl⟩; cases h; rfl
  | error e t => simp

/-- `runOp` faults exactly where the pseudocode raises. -/
theorem runOp_fault_iff (op : Op Nat) (s : State) (f : Fault) :
    runOp op s = .fault f ↔ ∃ t, op s = .error f t := by
  unfold runOp
  cases op s with
  | ok n t => simp
  | error e t =>
    constructor
    · intro h; cases h; exact ⟨t, rfl⟩
    · rintro ⟨t', h⟩; cases h; rfl

/-- `runOp` never refuses. -/
theorem runOp_not_refused (op : Op Nat) (s : State) (r : Refusal) : runOp op s ≠ .refused r := by
  unfold runOp
  cases op s <;> simp

/-! ### Registers -/

@[simp] theorem readCell_ok_iff {α : Type} (cell : RegCell) (u : State → Bool) (g : State → α) (s t : State) (a : α) :
    readCell cell u g s = .ok a t ↔ u s = false ∧ a = g s ∧ t = s := by
  unfold readCell
  cases u s with
  | true => simp [raiseUndefined]
  | false =>
    constructor
    · intro h; cases h; exact ⟨rfl, rfl, rfl⟩
    · rintro ⟨_, rfl, rfl⟩; rfl

@[simp] theorem readCell_error_iff {α : Type} (cell : RegCell) (u : State → Bool) (g : State → α) (s t : State)
    (e : Fault) :
    readCell cell u g s = .error e t ↔ u s = true ∧ e = .undefinedRegisterFault cell s.stepPc s.bus ∧ t = s := by
  unfold readCell
  cases u s <;> simp [raiseUndefined]

@[simp] theorem readReg_ok_iff (r : Reg8) (s t : State) (v : Byte) :
    readReg r s = .ok v t ↔ s.unset.reg r = false ∧ v = s.reg r ∧ t = s := by simp [readReg]

@[simp] theorem readPair_ok_iff (p : Reg16) (s t : State) (v : Word) :
    readPair p s = .ok v t ↔ s.unset.pair p = false ∧ v = s.pair p ∧ t = s := by simp [readPair]

@[simp] theorem readF_ok_iff (s t : State) (v : Byte) :
    readF s = .ok v t ↔ s.unset.f = false ∧ v = s.flags ∧ t = s := by simp [readF]

@[simp] theorem readIf_ok_iff (s t : State) (v : BitVec 5) :
    readIf s = .ok v t ↔ s.unset.ifr = false ∧ v = s.ifr ∧ t = s := by simp [readIf]

@[simp] theorem readIe_ok_iff (s t : State) (v : Byte) :
    readIe s = .ok v t ↔ s.unset.ie = false ∧ v = s.ie ∧ t = s := by simp [readIe]

@[simp] theorem writeReg_ok_iff (r : Reg8) (v : Byte) (s t : State) (x : Unit) :
    writeReg r v s = .ok x t ↔ t = s.setReg r v := by simp [writeReg]

@[simp] theorem writePair_ok_iff (p : Reg16) (v : Word) (s t : State) (x : Unit) :
    writePair p v s = .ok x t ↔ t = s.setPair p v := by simp [writePair]

@[simp] theorem writePc_ok_iff (v : Word) (s t : State) (x : Unit) :
    writePc v s = .ok x t ↔ t = s.setPc v := by simp [writePc]

/-- A flag update that keeps no flag reads nothing. -/
@[simp] theorem setFlags_all_ok_iff (z n h c : Bool) (s t : State) (x : Unit) :
    setFlags (some z) (some n) (some h) (some c) s = .ok x t ↔ t = s.setF (packFlags z n h c) := by simp [setFlags]

/-- What a flag update that keeps a flag leaves in F. -/
def keptFlags (z n h c : Option Bool) (f : Byte) : Byte :=
  packFlags (z.getD (flagZ f)) (n.getD (flagN f)) (h.getD (flagH f)) (c.getD (flagC f))

/-- A flag update that keeps a flag reads F. -/
theorem setFlags_ok_iff (z n h c : Option Bool) (hk : z = none ∨ n = none ∨ h = none ∨ c = none) (s t : State)
    (x : Unit) :
    setFlags z n h c s = .ok x t ↔ s.unset.f = false ∧ t = s.setF (keptFlags z n h c s.flags) := by
  cases z <;> cases n <;> cases h <;> cases c <;> simp_all [setFlags, keptFlags]

@[simp] theorem setFlags_keepC_ok_iff (z n h : Bool) (s t : State) (x : Unit) :
    setFlags (some z) (some n) (some h) none s = .ok x t ↔
      s.unset.f = false ∧ t = s.setF (packFlags z n h (flagC s.flags)) :=
  setFlags_ok_iff _ _ _ _ (by simp) s t x

@[simp] theorem setFlags_keepZ_ok_iff (n h c : Bool) (s t : State) (x : Unit) :
    setFlags none (some n) (some h) (some c) s = .ok x t ↔
      s.unset.f = false ∧ t = s.setF (packFlags (flagZ s.flags) n h c) :=
  setFlags_ok_iff _ _ _ _ (by simp) s t x

@[simp] theorem setFlags_keepN_ok_iff (z h c : Bool) (s t : State) (x : Unit) :
    setFlags (some z) none (some h) (some c) s = .ok x t ↔
      s.unset.f = false ∧ t = s.setF (packFlags z (flagN s.flags) h c) :=
  setFlags_ok_iff _ _ _ _ (by simp) s t x

@[simp] theorem setFlags_keepZC_ok_iff (n h : Bool) (s t : State) (x : Unit) :
    setFlags none (some n) (some h) none s = .ok x t ↔
      s.unset.f = false ∧ t = s.setF (packFlags (flagZ s.flags) n h (flagC s.flags)) :=
  setFlags_ok_iff _ _ _ _ (by simp) s t x

@[simp] theorem readCarryIf_ok_iff (uses : Bool) (s t : State) (c : Bool) :
    readCarryIf uses s = .ok c t ↔
      (uses = true → s.unset.f = false) ∧ c = (uses && flagC s.flags) ∧ t = s := by
  cases uses
  · simp [readCarryIf]
  · simp only [readCarryIf, if_true, Op.bind_ok_iff, readF_ok_iff, Op.pure_ok_iff]
    constructor
    · rintro ⟨_, _, ⟨hu, rfl, rfl⟩, rfl, rfl⟩; exact ⟨fun _ => hu, by simp, rfl⟩
    · rintro ⟨hu, rfl, rfl⟩; exact ⟨_, _, ⟨hu trivial, rfl, rfl⟩, by simp, rfl⟩

/-! ### Memory -/

@[simp] theorem memRead8_ok_iff (a : Word) (s t : State) (v : Byte) :
    memRead8 a s = .ok v t ↔ s.canRead a = true ∧ v = s.byteAt a ∧ t = s.afterRead a := by
  unfold memRead8 State.canRead State.byteAt State.afterRead
  by_cases h1 : a = ifAddr
  · simp only [h1, if_true]
    simp only [Op.bind_ok_iff, readIf_ok_iff, Op.pure_ok_iff]
    constructor
    · rintro ⟨_, _, ⟨hu, rfl, rfl⟩, rfl, rfl⟩; exact ⟨by simp [hu], rfl, rfl⟩
    · rintro ⟨hu, rfl, rfl⟩; exact ⟨_, _, ⟨by simpa using hu, rfl, rfl⟩, rfl, rfl⟩
  · by_cases h2 : a = ieAddr
    · simp [h2, show ieAddr ≠ ifAddr by decide]
    · simp only [h1, h2, if_false, busRead]
      cases (s.bus.readByte a).1 with
      | none => simp
      | some w =>
        constructor
        · intro h; cases h; exact ⟨rfl, rfl, rfl⟩
        · rintro ⟨_, rfl, rfl⟩; rfl

@[simp] theorem memWrite8_ok_iff (a : Word) (v : Byte) (s t : State) (x : Unit) :
    memWrite8 a v s = .ok x t ↔ s.canWrite a v = true ∧ t = s.storeByte a v := by
  unfold memWrite8 State.canWrite State.storeByte
  by_cases h1 : a = ifAddr
  · simp [h1]
  · by_cases h2 : a = ieAddr
    · simp [h2, show ieAddr ≠ ifAddr by decide]
    · simp only [h1, h2, if_false, busWrite]
      cases (s.bus.writeByte a v).1 with
      | false => simp
      | true =>
        simp only [if_true, decide_false, Bool.false_or]
        constructor
        · intro h; cases h; exact ⟨trivial, rfl⟩
        · rintro ⟨_, rfl⟩; rfl

/-- A read that does not succeed raises the fault of that access (20_memory.md R54, 10_state.md R44). -/
theorem memRead8_error_iff (a : Word) (s t : State) (f : Fault) :
    memRead8 a s = .error f t ↔ s.canRead a = false ∧ f = s.refusal (.read a) ∧ t = s.afterRead a := by
  unfold memRead8 State.canRead State.afterRead State.refusal
  by_cases h1 : a = ifAddr
  · simp only [h1, if_true, readIf, Op.bind_error_iff, readCell_error_iff, Op.pure_error, and_false, exists_false, or_false]
    simp
  · by_cases h2 : a = ieAddr
    · simp [h2, show ieAddr ≠ ifAddr by decide, readIe]
    · simp only [h1, h2, if_false, busRead]
      cases (s.bus.readByte a).1 with
      | none => simp [State.afterRead, h1, h2]
      | some w => simp

/-- A write that does not succeed raises the fault of that access (20_memory.md R55). -/
theorem memWrite8_error_iff (a : Word) (v : Byte) (s t : State) (f : Fault) :
    memWrite8 a v s = .error f t ↔ s.canWrite a v = false ∧ f = s.refusal (.write a v) ∧ t = s.storeByte a v := by
  unfold memWrite8 State.canWrite State.refusal State.storeByte
  by_cases h1 : a = ifAddr
  · simp [h1]
  · by_cases h2 : a = ieAddr
    · simp [h2, show ieAddr ≠ ifAddr by decide]
    · simp only [h1, h2, if_false, busWrite]
      cases (s.bus.writeByte a v).1 with
      | false => simp
      | true => simp

theorem memRead16_ok_iff (a : Word) (s t : State) (v : Word) :
    memRead16 a s = .ok v t ↔
      s.canRead a = true ∧ (s.afterRead a).canRead (inc16 a) = true ∧
        v = word16 ((s.afterRead a).byteAt (inc16 a)) (s.byteAt a) ∧ t = (s.afterRead a).afterRead (inc16 a) := by
  simp only [memRead16, Op.bind_ok_iff, memRead8_ok_iff, Op.pure_ok_iff]
  constructor
  · rintro ⟨_, _, ⟨h1, rfl, rfl⟩, _, _, ⟨h2, rfl, rfl⟩, rfl, rfl⟩; exact ⟨h1, h2, rfl, rfl⟩
  · rintro ⟨h1, h2, rfl, rfl⟩; exact ⟨_, _, ⟨h1, rfl, rfl⟩, _, _, ⟨h2, rfl, rfl⟩, rfl, rfl⟩

theorem memWrite16_ok_iff (a v : Word) (s t : State) (x : Unit) :
    memWrite16 a v s = .ok x t ↔
      s.canWrite a (loByte v) = true ∧ (s.storeByte a (loByte v)).canWrite (inc16 a) (hiByte v) = true ∧
        t = (s.storeByte a (loByte v)).storeByte (inc16 a) (hiByte v) := by
  simp only [memWrite16, Op.bind_ok_iff, memWrite8_ok_iff]
  constructor
  · rintro ⟨_, _, ⟨h1, rfl⟩, h2, rfl⟩; exact ⟨h1, h2, rfl⟩
  · rintro ⟨h1, h2, rfl⟩; exact ⟨(), _, ⟨h1, rfl⟩, h2, rfl⟩

/-! ### The stack -/

theorem push16_ok_iff (v : Word) (s t : State) (x : Unit) :
    push16 v s = .ok x t ↔ s.canPush v = true ∧ t = s.pushed v := by
  have e : dec16 (dec16 s.sp) = s.sp - 2#16 := by simp only [dec16_eq]; bv_omega
  simp only [push16, Op.bind_ok_iff, readPair_ok_iff, writePair_ok_iff, memWrite8_ok_iff]
  constructor
  · rintro ⟨_, _, ⟨hu, rfl, rfl⟩, _, _, rfl, _, _, ⟨h1, rfl⟩, _, _, rfl, h2, rfl⟩
    simp only [State.setPair, State.pair, State.setSp_canWrite, State.setSp_storeByte, e] at h1 h2 ⊢
    refine ⟨?_, ?_⟩
    · simp only [State.canPush, ← dec16_eq]
      simpa [h1, h2, Unset.pair] using hu
    · simp only [State.pushed, ← dec16_eq]
      rfl
  · rintro ⟨h, rfl⟩
    simp only [State.canPush, ← dec16_eq, Bool.and_eq_true, Bool.not_eq_true'] at h
    obtain ⟨⟨hu, h1⟩, h2⟩ := h
    refine ⟨_, _, ⟨hu, rfl, rfl⟩, (), _, rfl, (), _, ⟨?_, rfl⟩, (), _, rfl, ?_, ?_⟩
    · simpa [State.setPair, State.pair] using h1
    · simpa [State.setPair, State.pair, State.setSp_storeByte, e] using h2
    · simp only [State.pushed, ← dec16_eq, State.setPair, State.pair]
      simp only [State.setSp_storeByte, e]
      rfl

theorem pop16_ok_iff (s t : State) (v : Word) :
    pop16 s = .ok v t ↔ s.canPop = true ∧ v = s.top ∧ t = s.popped := by
  have e : inc16 (inc16 s.sp) = s.sp + 2#16 := by simp only [inc16_eq]; bv_omega
  simp only [pop16, Op.bind_ok_iff, readPair_ok_iff, writePair_ok_iff, memRead8_ok_iff, Op.pure_ok_iff]
  constructor
  · rintro ⟨_, _, ⟨hu, rfl, rfl⟩, _, _, ⟨h1, rfl, rfl⟩, _, _, rfl, _, _, ⟨h2, rfl, rfl⟩, _, _, rfl, rfl, rfl⟩
    simp only [State.setPair, State.pair, State.setSp_canRead, State.setSp_byteAt, State.setSp_afterRead, inc16_eq] at h1 h2 ⊢
    simp only [Unset.pair] at hu
    refine ⟨by simp [State.canPop, hu, h1, h2], rfl, ?_⟩
    simp only [inc16_eq] at e
    simp only [State.popped, e]
    rfl
  · rintro ⟨h, rfl, rfl⟩
    simp only [State.canPop, ← inc16_eq, Bool.and_eq_true, Bool.not_eq_true'] at h
    obtain ⟨⟨hu, h1⟩, h2⟩ := h
    refine ⟨_, _, ⟨hu, rfl, rfl⟩, _, _, ⟨h1, rfl, rfl⟩, (), _, rfl, _, _, ⟨?_, rfl, rfl⟩, (), _, rfl, ?_, ?_⟩
    · simpa [State.setPair, State.pair] using h2
    · simp [State.top, State.setPair, State.pair, ← inc16_eq]
    · simp only [State.setPair, State.pair, e, State.setSp_afterRead, State.popped, ← inc16_eq]
      rfl

/-! ### Carrying an invariant through an operation -/

/-- From a state that meets `I`, the operation completes in a state that meets `I`, or raises a fault that meets `P`. -/
def Op.Guards {α : Type} (I : State → Prop) (P : Fault → Prop) (op : Op α) : Prop :=
  ∀ s, I s → (∀ a t, op s = .ok a t → I t) ∧ (∀ f t, op s = .error f t → P f)

section Guards

variable {α β : Type} {I : State → Prop} {P : Fault → Prop}

theorem Op.Guards.bind {x : Op α} {f : α → Op β} (hx : x.Guards I P) (hf : ∀ a, (f a).Guards I P) :
    (x >>= f).Guards I P := by
  intro s hs
  refine ⟨fun b u h => ?_, fun e u h => ?_⟩
  · obtain ⟨a, t, ha, hb⟩ := (Op.bind_ok_iff x f s u b).mp h
    exact (hf a t ((hx s hs).1 a t ha)).1 b u hb
  · rcases (Op.bind_error_iff x f s u e).mp h with he | ⟨a, t, ha, hb⟩
    · exact (hx s hs).2 e u he
    · exact (hf a t ((hx s hs).1 a t ha)).2 e u hb

theorem Op.Guards.pure (a : α) : (pure a : Op α).Guards I P := by
  intro s hs
  refine ⟨fun b u h => ?_, fun e u h => ?_⟩
  · rw [((Op.pure_ok_iff a b s u).mp h).2]; exact hs
  · exact ((Op.pure_error a s u e).mp h).elim

theorem Op.Guards.state : Op.state.Guards I P := by
  intro s hs
  refine ⟨fun b u h => ?_, fun e u h => ?_⟩
  · rw [((Op.state_ok_iff s b u).mp h).2]; exact hs
  · exact ((Op.state_error s u e).mp h).elim

theorem Op.Guards.update {g : State → State} (hg : ∀ s, I s → I (g s)) : (Op.update g).Guards I P := by
  intro s hs
  refine ⟨fun b u h => ?_, fun e u h => ?_⟩
  · rw [(Op.update_ok_iff g s u b).mp h]; exact hg s hs
  · exact ((Op.update_error g s u e).mp h).elim

theorem Op.Guards.raise {f : State → Fault} (hf : ∀ s, I s → P (f s)) : (Op.raise f : Op α).Guards I P := by
  intro s hs
  refine ⟨fun b u h => ?_, fun e u h => ?_⟩
  · exact ((Op.raise_ok f s u b).mp h).elim
  · rw [((Op.raise_error_iff f s u e).mp h).1]; exact hf s hs

theorem Op.Guards.readCell {cell : RegCell} {u : State → Bool} {g : State → α}
    (hu : ∀ s, I s → u s = true → P (.undefinedRegisterFault cell s.stepPc s.bus)) :
    (readCell cell u g).Guards I P := by
  intro s hs
  refine ⟨fun b v h => ?_, fun e v h => ?_⟩
  · rw [((readCell_ok_iff cell u g s v b).mp h).2.2]; exact hs
  · obtain ⟨h1, h2, _⟩ := (readCell_error_iff cell u g s v e).mp h
    rw [h2]; exact hu s hs h1

/-- An operation that guards `I`, as an outcome: its next state meets whatever the count leads to from `I`. -/
theorem Op.Guards.runOp {op : Op Nat} (h : op.Guards I P) {J : State → Prop} (ht : ∀ s n, I s → J (s.tick n)) {s : State}
    (hs : I s) : (∀ t, runOp op s = .next t → J t) ∧ (∀ f, runOp op s = .fault f → P f) := by
  refine ⟨fun t ht' => ?_, fun f hf => ?_⟩
  · obtain ⟨n, u, hu, rfl⟩ := (runOp_next_iff op s t).mp ht'
    exact ht u n ((h s hs).1 n u hu)
  · obtain ⟨u, hu⟩ := (runOp_fault_iff op s f).mp hf
    exact (h s hs).2 f u hu

end Guards

end Sys2Proof.Machine
end

