-- ==== Sys2Proof/Laws/Operands.lean ====
section
/-! SUPPORT. What reading, writing and modifying an operand can do, said once for each operand form. -/

namespace Sys2Proof.Machine

@[simp] theorem readOpnd_ok_iff (o : Opnd8) (s t : State) (v : Byte) :
    readOpnd o s = .ok v t ↔ s.opndReady o = true ∧ v = s.opnd o ∧ t = s.afterOpnd o := by
  cases o with
  | reg r => simp [readOpnd, State.opndReady, State.opnd, State.afterOpnd]
  | indHl =>
    simp only [readOpnd, State.opndReady, State.opnd, State.afterOpnd, Op.bind_ok_iff, readPair_ok_iff, memRead8_ok_iff]
    constructor
    · rintro ⟨_, _, ⟨hu, rfl, rfl⟩, hr, rfl, rfl⟩; exact ⟨by simp [hu, hr], rfl, rfl⟩
    · rintro ⟨h, rfl, rfl⟩
      simp only [Bool.and_eq_true, Bool.not_eq_true'] at h
      exact ⟨_, _, ⟨h.1, rfl, rfl⟩, h.2, rfl, rfl⟩

@[simp] theorem readSrc_ok_iff (o : Src8) (s t : State) (v : Byte) :
    readSrc o s = .ok v t ↔ s.srcReady o = true ∧ v = s.src o ∧ t = s.afterSrc o := by
  cases o with
  | reg r => simp [readSrc, State.srcReady, State.src, State.opndReady, State.opnd, State.afterSrc, State.afterOpnd]
  | indHl => simp [readSrc, State.srcReady, State.src, State.afterSrc]
  | imm n => simp [readSrc, State.srcReady, State.src, State.afterSrc]

/-- A store of a value that is at hand. -/
@[simp] theorem writeOpnd_pure_ok_iff (o : Opnd8) (v : Byte) (s t : State) (x : Unit) :
    writeOpnd o (pure v) s = .ok x t ↔ s.opndStorable o v = true ∧ t = s.setOpnd o v := by
  cases o with
  | reg r => simp [writeOpnd, State.opndStorable, State.setOpnd]
  | indHl =>
    simp only [writeOpnd, State.opndStorable, State.setOpnd, Op.bind_ok_iff, readPair_ok_iff, Op.pure_ok_iff,
      memWrite8_ok_iff]
    constructor
    · rintro ⟨_, _, ⟨hu, rfl, rfl⟩, _, _, ⟨rfl, rfl⟩, hw, rfl⟩; exact ⟨by simp [hu, hw], rfl⟩
    · rintro ⟨h, rfl⟩
      simp only [Bool.and_eq_true, Bool.not_eq_true'] at h
      exact ⟨_, _, ⟨h.1, rfl, rfl⟩, _, _, ⟨rfl, rfl⟩, h.2, rfl⟩

/-- A store of another operand. -/
@[simp] theorem writeOpnd_read_ok_iff (o src : Opnd8) (s t : State) (x : Unit) :
    writeOpnd o (readOpnd src) s = .ok x t ↔
      (s.afterOpnd src).opndStorable o (s.opnd src) = true ∧ s.opndReady src = true ∧
        t = (s.afterOpnd src).setOpnd o (s.opnd src) := by
  cases o with
  | reg r =>
    simp only [writeOpnd, State.opndStorable, State.setOpnd, Op.bind_ok_iff, readOpnd_ok_iff, writeReg_ok_iff]
    constructor
    · rintro ⟨_, _, ⟨h, rfl, rfl⟩, rfl⟩; exact ⟨trivial, h, rfl⟩
    · rintro ⟨_, h, rfl⟩; exact ⟨_, _, ⟨h, rfl, rfl⟩, rfl⟩
  | indHl =>
    simp only [writeOpnd, State.opndStorable, State.setOpnd, Op.bind_ok_iff, readPair_ok_iff, readOpnd_ok_iff,
      memWrite8_ok_iff, State.afterOpnd_unset, State.afterOpnd_pair]
    constructor
    · rintro ⟨_, _, ⟨hu, rfl, rfl⟩, _, _, ⟨h, rfl, rfl⟩, hw, rfl⟩; exact ⟨by simp [hu, hw], h, rfl⟩
    · rintro ⟨hs, h, rfl⟩
      simp only [Bool.and_eq_true, Bool.not_eq_true'] at hs
      exact ⟨_, _, ⟨hs.1, rfl, rfl⟩, _, _, ⟨h, rfl, rfl⟩, hs.2, rfl⟩

@[simp] theorem modifyOpnd_ok_iff (o : Opnd8) (g : Byte → Byte) (s t : State) (v : Byte) :
    modifyOpnd o g s = .ok v t ↔
      s.opndReady o = true ∧ (s.afterOpnd o).opndStorable o (g (s.opnd o)) = true ∧ v = s.opnd o ∧
        t = (s.afterOpnd o).setOpnd o (g (s.opnd o)) := by
  cases o with
  | reg r =>
    simp only [modifyOpnd, State.opndReady, State.opndStorable, State.opnd, State.setOpnd, State.afterOpnd, Op.bind_ok_iff,
      readReg_ok_iff, writeReg_ok_iff, Op.pure_ok_iff]
    constructor
    · rintro ⟨_, _, ⟨hu, rfl, rfl⟩, _, _, rfl, rfl, rfl⟩; exact ⟨by simp [hu], trivial, rfl, rfl⟩
    · rintro ⟨hu, _, rfl, rfl⟩; exact ⟨_, _, ⟨by simpa using hu, rfl, rfl⟩, (), _, rfl, rfl, rfl⟩
  | indHl =>
    simp only [modifyOpnd, State.opndReady, State.opndStorable, State.opnd, State.setOpnd, State.afterOpnd, Op.bind_ok_iff,
      readPair_ok_iff, memRead8_ok_iff, memWrite8_ok_iff, Op.pure_ok_iff, State.afterRead_unset, State.afterRead_pair]
    constructor
    · rintro ⟨_, _, ⟨hu, rfl, rfl⟩, _, _, ⟨hr, rfl, rfl⟩, _, _, ⟨hw, rfl⟩, rfl, rfl⟩
      exact ⟨by simp [hu, hr], by simp [hu, hw], rfl, rfl⟩
    · rintro ⟨h1, h2, rfl, rfl⟩
      simp only [Bool.and_eq_true, Bool.not_eq_true'] at h1 h2
      exact ⟨_, _, ⟨h1.1, rfl, rfl⟩, _, _, ⟨h1.2, rfl, rfl⟩, (), _, ⟨h2.2, rfl⟩, rfl, rfl⟩

@[simp] theorem checkAddr_ok_iff (m : MemOpnd) (s t : State) (x : Unit) :
    checkAddr m s = .ok x t ↔ s.memOpndReady m = true ∧ t = s := by
  cases m <;> simp [checkAddr, State.memOpndReady, Unset.reg]

@[simp] theorem addrOf_ok_iff (m : MemOpnd) (s t : State) (a : Word) :
    addrOf m s = .ok a t ↔ s.memOpndReady m = true ∧ a = memAddress m s ∧ t = s := by
  simp only [addrOf, Op.bind_ok_iff, checkAddr_ok_iff, Op.state_ok_iff, Op.pure_ok_iff]
  constructor
  · rintro ⟨_, _, ⟨h, rfl⟩, _, _, ⟨rfl, rfl⟩, rfl, rfl⟩; exact ⟨h, rfl, rfl⟩
  · rintro ⟨h, rfl, rfl⟩; exact ⟨(), _, ⟨h, rfl⟩, _, _, ⟨rfl, rfl⟩, rfl, rfl⟩

/-! ### Guards of the shared operations -/

section Guards

variable {I : State → Prop} {P : Fault → Prop}

/-- What an invariant and a fault property must allow for every operation over registers, memory and the stack to guard
them: every named update keeps `I`, and the faults of 10_state.md R44 and 20_memory.md R51, R52 meet `P`. -/
structure Allows (I : State → Prop) (P : Fault → Prop) : Prop where
  reg : ∀ s r v, I s → I (s.setReg r v)
  f : ∀ s v, I s → I (s.setF v)
  sp : ∀ s v, I s → I (s.setSp v)
  pc : ∀ s v, I s → I (s.setPc v)
  load : ∀ s a, I s → s.canRead a = true → I (s.afterRead a)
  store : ∀ s a v, I s → s.canWrite a v = true → I (s.storeByte a v)
  undefReg : ∀ s r, I s → s.unset.reg r = true → P (.undefinedRegisterFault (regCell r) s.stepPc s.bus)
  undefPair : ∀ s p, I s → s.unset.pair p = true → P (.undefinedRegisterFault (pairCell p) s.stepPc s.bus)
  undefF : ∀ s, I s → s.unset.f = true → P (.undefinedRegisterFault .f s.stepPc s.bus)
  undefIf : ∀ s, I s → s.unset.ifr = true → P (.undefinedRegisterFault .ifr s.stepPc s.bus)
  undefIe : ∀ s, I s → s.unset.ie = true → P (.undefinedRegisterFault .ie s.stepPc s.bus)
  busRead : ∀ s a, I s → s.canRead a = false → onBus a = true →
    P (.busFault (.read a) s.stepPc (s.bus.readByte a).2)
  busWrite : ∀ s a v, I s → s.canWrite a v = false → onBus a = true →
    P (.busFault (.write a v) s.stepPc (s.bus.writeByte a v).2)

variable (h : Allows I P)

include h

theorem readReg_guards (r : Reg8) : (readReg r).Guards I P := Op.Guards.readCell fun s => h.undefReg s r
theorem readPair_guards (p : Reg16) : (readPair p).Guards I P := Op.Guards.readCell fun s => h.undefPair s p
theorem readF_guards : readF.Guards I P := Op.Guards.readCell h.undefF
theorem readIf_guards : readIf.Guards I P := Op.Guards.readCell h.undefIf
theorem readIe_guards : readIe.Guards I P := Op.Guards.readCell h.undefIe
theorem writeReg_guards (r : Reg8) (v : Byte) : (writeReg r v).Guards I P := Op.Guards.update fun s => h.reg s r v
theorem writePc_guards (v : Word) : (writePc v).Guards I P := Op.Guards.update fun s => h.pc s v

theorem Allows.pair (s : State) (p : Reg16) (v : Word) (hs : I s) : I (s.setPair p v) := by
  cases p with
  | bc => exact h.reg _ .c _ (h.reg _ .b _ hs)
  | de => exact h.reg _ .e _ (h.reg _ .d _ hs)
  | hl => exact h.reg _ .l _ (h.reg _ .h _ hs)
  | sp => exact h.sp _ _ hs
  | af => exact h.f _ _ (h.reg _ _ _ hs)

theorem writePair_guards (p : Reg16) (v : Word) : (writePair p v).Guards I P := Op.Guards.update fun s => h.pair s p v

theorem setFlags_guards (z n hf c : Option Bool) : (setFlags z n hf c).Guards I P := by
  cases z <;> cases n <;> cases hf <;> cases c <;>
    first
    | exact Op.Guards.update fun s => h.f s _
    | exact (readF_guards h).bind fun f => Op.Guards.update fun s => h.f s _

theorem readCarryIf_guards (uses : Bool) : (readCarryIf uses).Guards I P := by
  cases uses
  · exact Op.Guards.pure _
  · exact (readF_guards h).bind fun f => Op.Guards.pure _

theorem memRead8_guards (a : Word) : (memRead8 a).Guards I P := by
  intro s hs
  refine ⟨fun v t hh => ?_, fun f t hh => ?_⟩
  · obtain ⟨hr, _, rfl⟩ := (memRead8_ok_iff a s t v).mp hh
    exact h.load s a hs hr
  · obtain ⟨hr, rfl, _⟩ := (memRead8_error_iff a s t f).mp hh
    simp only [State.refusal]
    split
    · rename_i h1
      exact h.undefIf s hs (by simpa [State.canRead, h1] using hr)
    · split
      · rename_i h1 h2
        exact h.undefIe s hs (by simpa [State.canRead, h1, h2, show ieAddr ≠ ifAddr by decide] using hr)
      · rename_i h1 h2
        have := h.busRead s a hs hr (by simp [onBus, h1, h2])
        simpa [State.afterRead, h1, h2] using this

theorem memWrite8_guards (a : Word) (v : Byte) : (memWrite8 a v).Guards I P := by
  intro s hs
  refine ⟨fun x t hh => ?_, fun f t hh => ?_⟩
  · obtain ⟨hw, rfl⟩ := (memWrite8_ok_iff a v s t x).mp hh
    exact h.store s a v hs hw
  · obtain ⟨hw, rfl, _⟩ := (memWrite8_error_iff a v s t f).mp hh
    have hb : ¬a = ifAddr ∧ ¬a = ieAddr := by
      simp only [State.canWrite, Bool.or_eq_false_iff, decide_eq_false_iff_not] at hw
      exact hw.1
    have := h.busWrite s a v hs hw (by simp [onBus, hb])
    simpa [State.refusal, State.storeByte, hb] using this

theorem memWrite16_guards (a v : Word) : (memWrite16 a v).Guards I P :=
  (memWrite8_guards h _ _).bind fun _ => memWrite8_guards h _ _

theorem push16_guards (v : Word) : (push16 v).Guards I P :=
  (readPair_guards h _).bind fun _ => (writePair_guards h _ _).bind fun _ => (memWrite8_guards h _ _).bind fun _ =>
    (writePair_guards h _ _).bind fun _ => memWrite8_guards h _ _

theorem pop16_guards : pop16.Guards I P :=
  (readPair_guards h _).bind fun _ => (memRead8_guards h _).bind fun _ => (writePair_guards h _ _).bind fun _ =>
    (memRead8_guards h _).bind fun _ => (writePair_guards h _ _).bind fun _ => Op.Guards.pure _

theorem readOpnd_guards (o : Opnd8) : (readOpnd o).Guards I P := by
  cases o with
  | reg r => exact readReg_guards h r
  | indHl => exact (readPair_guards h _).bind fun _ => memRead8_guards h _

theorem writeOpnd_guards (o : Opnd8) {value : Op Byte} (hv : value.Guards I P) : (writeOpnd o value).Guards I P := by
  cases o with
  | reg r => exact hv.bind fun _ => writeReg_guards h _ _
  | indHl => exact (readPair_guards h _).bind fun _ => hv.bind fun _ => memWrite8_guards h _ _

theorem modifyOpnd_guards (o : Opnd8) (g : Byte → Byte) : (modifyOpnd o g).Guards I P := by
  cases o with
  | reg r => exact (readReg_guards h _).bind fun _ => (writeReg_guards h _ _).bind fun _ => Op.Guards.pure _
  | indHl =>
    exact (readPair_guards h _).bind fun _ => (memRead8_guards h _).bind fun _ =>
      (memWrite8_guards h _ _).bind fun _ => Op.Guards.pure _

theorem readSrc_guards (o : Src8) : (readSrc o).Guards I P := by
  cases o with
  | reg r => exact readOpnd_guards h (.reg r)
  | indHl => exact readOpnd_guards h .indHl
  | imm n => exact Op.Guards.pure _

theorem checkAddr_guards (m : MemOpnd) : (checkAddr m).Guards I P := by
  cases m with
  | indBc => exact (readPair_guards h _).bind fun _ => Op.Guards.pure _
  | indDe => exact (readPair_guards h _).bind fun _ => Op.Guards.pure _
  | indHlInc => exact (readPair_guards h _).bind fun _ => Op.Guards.pure _
  | indHlDec => exact (readPair_guards h _).bind fun _ => Op.Guards.pure _
  | abs a => exact Op.Guards.pure _
  | high n => exact Op.Guards.pure _
  | highC => exact (readReg_guards h _).bind fun _ => Op.Guards.pure _

theorem addrOf_guards (m : MemOpnd) : (addrOf m).Guards I P :=
  (checkAddr_guards h m).bind fun _ => Op.Guards.state.bind fun _ => Op.Guards.pure _

theorem afterAccess_guards (m : MemOpnd) (a : Word) : (Op.update fun s => s.afterAccess m a).Guards I P := by
  refine Op.Guards.update fun s hs => ?_
  cases m with
  | indHlInc => exact h.pair s .hl _ hs
  | indHlDec => exact h.pair s .hl _ hs
  | indBc => exact hs
  | indDe => exact hs
  | abs a => exact hs
  | high n => exact hs
  | highC => exact hs

end Guards

end Sys2Proof.Machine
end

