-- ==== Sys2Proof/Laws/Families.lean ====
section
/-! SUPPORT. What each shared operation of the seven families can do: when it completes, with how many cycles and in which
state. -/

namespace Sys2Proof.Machine

/-! ### 8-bit loads -/

theorem ldOp_ok_iff (dst src : Opnd8) (n m : Nat) (s t : State) :
    ldOp dst src n s = .ok m t ↔
      (s.afterOpnd src).opndStorable dst (s.opnd src) = true ∧ s.opndReady src = true ∧ m = n ∧
        t = (s.afterOpnd src).setOpnd dst (s.opnd src) := by
  simp only [ldOp, Op.bind_ok_iff, writeOpnd_read_ok_iff, Op.pure_ok_iff]
  constructor
  · rintro ⟨_, _, ⟨h1, h2, rfl⟩, rfl, rfl⟩; exact ⟨h1, h2, rfl, rfl⟩
  · rintro ⟨h1, h2, rfl, rfl⟩; exact ⟨(), _, ⟨h1, h2, rfl⟩, rfl, rfl⟩

theorem ldImmOp_ok_iff (dst : Opnd8) (v : Byte) (n m : Nat) (s t : State) :
    ldImmOp dst v n s = .ok m t ↔ s.opndStorable dst v = true ∧ m = n ∧ t = s.setOpnd dst v := by
  simp only [ldImmOp, Op.bind_ok_iff, writeOpnd_pure_ok_iff, Op.pure_ok_iff]
  constructor
  · rintro ⟨_, _, ⟨h1, rfl⟩, rfl, rfl⟩; exact ⟨h1, rfl, rfl⟩
  · rintro ⟨h1, rfl, rfl⟩; exact ⟨(), _, ⟨h1, rfl⟩, rfl, rfl⟩

theorem loadAOp_ok_iff (o : MemOpnd) (n m : Nat) (s t : State) :
    loadAOp o n s = .ok m t ↔
      s.memOpndReady o = true ∧ s.canRead (memAddress o s) = true ∧ m = n ∧
        t = ((s.afterRead (memAddress o s)).setReg .a (s.byteAt (memAddress o s))).afterAccess o (memAddress o s) := by
  simp only [loadAOp, Op.bind_ok_iff, addrOf_ok_iff, memRead8_ok_iff, writeReg_ok_iff, Op.update_ok_iff, Op.pure_ok_iff]
  constructor
  · rintro ⟨_, _, ⟨h1, rfl, rfl⟩, _, _, ⟨h2, rfl, rfl⟩, _, _, rfl, _, _, rfl, rfl, rfl⟩; exact ⟨h1, h2, rfl, rfl⟩
  · rintro ⟨h1, h2, rfl, rfl⟩
    exact ⟨_, _, ⟨h1, rfl, rfl⟩, _, _, ⟨h2, rfl, rfl⟩, (), _, rfl, (), _, rfl, rfl, rfl⟩

theorem storeAOp_ok_iff (o : MemOpnd) (n m : Nat) (s t : State) :
    storeAOp o n s = .ok m t ↔
      s.memOpndReady o = true ∧ s.unset.reg .a = false ∧ s.canWrite (memAddress o s) s.a = true ∧ m = n ∧
        t = (s.storeByte (memAddress o s) s.a).afterAccess o (memAddress o s) := by
  simp only [storeAOp, Op.bind_ok_iff, addrOf_ok_iff, readReg_ok_iff, memWrite8_ok_iff, Op.update_ok_iff, Op.pure_ok_iff]
  constructor
  · rintro ⟨_, _, ⟨h1, rfl, rfl⟩, _, _, ⟨h2, rfl, rfl⟩, _, _, ⟨h3, rfl⟩, _, _, rfl, rfl, rfl⟩
    exact ⟨h1, h2, h3, rfl, rfl⟩
  · rintro ⟨h1, h2, h3, rfl, rfl⟩
    exact ⟨_, _, ⟨h1, rfl, rfl⟩, _, _, ⟨h2, rfl, rfl⟩, (), _, ⟨h3, rfl⟩, (), _, rfl, rfl, rfl⟩

/-! ### 16-bit loads and the stack -/

theorem ldRpOp_ok_iff (p : Rp) (v : Word) (n m : Nat) (s t : State) :
    ldRpOp p v n s = .ok m t ↔ m = n ∧ t = s.setPair p.reg16 v := by
  simp only [ldRpOp, Op.bind_ok_iff, writePair_ok_iff, Op.pure_ok_iff]
  constructor
  · rintro ⟨_, _, rfl, rfl, rfl⟩; exact ⟨rfl, rfl⟩
  · rintro ⟨rfl, rfl⟩; exact ⟨(), _, rfl, rfl, rfl⟩

theorem storeSpOp_ok_iff (a : Word) (n m : Nat) (s t : State) :
    storeSpOp a n s = .ok m t ↔
      s.unset.sp = false ∧ s.canWrite a (loByte s.sp) = true ∧
        (s.storeByte a (loByte s.sp)).canWrite (inc16 a) (hiByte s.sp) = true ∧ m = n ∧
        t = (s.storeByte a (loByte s.sp)).storeByte (inc16 a) (hiByte s.sp) := by
  simp only [storeSpOp, Op.bind_ok_iff, readPair_ok_iff, memWrite16_ok_iff, Op.pure_ok_iff]
  constructor
  · rintro ⟨_, _, ⟨h1, rfl, rfl⟩, _, _, ⟨h2, h3, rfl⟩, rfl, rfl⟩; exact ⟨h1, h2, h3, rfl, rfl⟩
  · rintro ⟨h1, h2, h3, rfl, rfl⟩; exact ⟨_, _, ⟨h1, rfl, rfl⟩, (), _, ⟨h2, h3, rfl⟩, rfl, rfl⟩

theorem ldSpHlOp_ok_iff (n m : Nat) (s t : State) :
    ldSpHlOp n s = .ok m t ↔ s.unset.pair .hl = false ∧ m = n ∧ t = s.setSp (s.pair .hl) := by
  simp only [ldSpHlOp, Op.bind_ok_iff, readPair_ok_iff, writePair_ok_iff, Op.pure_ok_iff]
  constructor
  · rintro ⟨_, _, ⟨h1, rfl, rfl⟩, _, _, rfl, rfl, rfl⟩; exact ⟨h1, rfl, rfl⟩
  · rintro ⟨h1, rfl, rfl⟩; exact ⟨_, _, ⟨h1, rfl, rfl⟩, (), _, rfl, rfl, rfl⟩

theorem pushOp_ok_iff (p : Rp2) (n m : Nat) (s t : State) :
    pushOp p n s = .ok m t ↔
      s.unset.pair p.reg16 = false ∧ s.canPush (s.pair p.reg16) = true ∧ m = n ∧ t = s.pushed (s.pair p.reg16) := by
  simp only [pushOp, Op.bind_ok_iff, readPair_ok_iff, push16_ok_iff, Op.pure_ok_iff]
  constructor
  · rintro ⟨_, _, ⟨h1, rfl, rfl⟩, _, _, ⟨h2, rfl⟩, rfl, rfl⟩; exact ⟨h1, h2, rfl, rfl⟩
  · rintro ⟨h1, h2, rfl, rfl⟩; exact ⟨_, _, ⟨h1, rfl, rfl⟩, (), _, ⟨h2, rfl⟩, rfl, rfl⟩

theorem popOp_ok_iff (p : Rp2) (n m : Nat) (s t : State) :
    popOp p n s = .ok m t ↔
      s.canPop = true ∧ m = n ∧ t = s.popped.setPair p.reg16 s.top := by
  simp only [popOp, Op.bind_ok_iff, pop16_ok_iff, writePair_ok_iff, Op.pure_ok_iff]
  constructor
  · rintro ⟨_, _, ⟨h1, rfl, rfl⟩, _, _, rfl, rfl, rfl⟩; exact ⟨h1, rfl, rfl⟩
  · rintro ⟨h1, rfl, rfl⟩; exact ⟨_, _, ⟨h1, rfl, rfl⟩, (), _, rfl, rfl, rfl⟩

theorem ldHlSpOp_ok_iff (e : Byte) (n m : Nat) (s t : State) :
    ldHlSpOp e n s = .ok m t ↔
      s.unset.sp = false ∧ m = n ∧
        t = (s.setPair .hl (addSpDisp s.sp e).1).setF
          (packFlags false false (addSpDisp s.sp e).2.1 (addSpDisp s.sp e).2.2) := by
  simp only [ldHlSpOp, Op.bind_ok_iff, readPair_ok_iff, writePair_ok_iff, setFlags_all_ok_iff, Op.pure_ok_iff]
  constructor
  · rintro ⟨_, _, ⟨h1, rfl, rfl⟩, _, _, rfl, _, _, rfl, rfl, rfl⟩; exact ⟨h1, rfl, rfl⟩
  · rintro ⟨h1, rfl, rfl⟩; exact ⟨_, _, ⟨h1, rfl, rfl⟩, (), _, rfl, (), _, rfl, rfl, rfl⟩

/-! ### 8-bit arithmetic and logic -/

/-- The state an ALU instruction leaves: CP writes the flags only. -/
def State.afterAlu (s : State) (op : AluOp) (r : Result8) : State :=
  match op with
  | .cp => s.setF (packFlags r.z r.n r.h r.c)
  | .add | .adc | .sub | .sbc | .and | .xor | .or => (s.setReg .a r.value).setF (packFlags r.z r.n r.h r.c)

theorem aluOp_ok_iff (op : AluOp) (src : Src8) (n m : Nat) (s t : State) :
    aluOp op src n s = .ok m t ↔
      (aluUsesCarry op = true → s.unset.f = false) ∧ s.srcReady src = true ∧ s.unset.reg .a = false ∧ m = n ∧
        t = (s.afterSrc src).afterAlu op (alu8 op s.a (s.src src) (aluUsesCarry op && flagC s.flags)) := by
  simp only [aluOp, Op.bind_ok_iff, readCarryIf_ok_iff, readSrc_ok_iff, readReg_ok_iff]
  constructor
  · rintro ⟨_, _, ⟨h1, rfl, rfl⟩, _, _, ⟨h2, rfl, rfl⟩, _, _, ⟨h3, rfl, rfl⟩, h⟩
    simp only [State.afterSrc_unset, State.afterSrc_reg] at h3 h
    refine ⟨h1, h2, h3, ?_⟩
    cases op <;> simp only [Op.bind_ok_iff, writeReg_ok_iff, setFlags_all_ok_iff, Op.pure_ok_iff] at h <;>
      (first
        | (obtain ⟨_, _, rfl, rfl, rfl⟩ := h; exact ⟨rfl, rfl⟩)
        | (obtain ⟨_, _, rfl, _, _, rfl, rfl, rfl⟩ := h; exact ⟨rfl, rfl⟩))
  · rintro ⟨h1, h2, h3, rfl, rfl⟩
    refine ⟨_, _, ⟨h1, rfl, rfl⟩, _, _, ⟨h2, rfl, rfl⟩, _, _, ⟨by simpa using h3, rfl, rfl⟩, ?_⟩
    simp only [State.afterSrc_reg]
    cases op <;> rfl

theorem incOp_ok_iff (o : Opnd8) (n m : Nat) (s t : State) :
    incOp o n s = .ok m t ↔
      s.opndReady o = true ∧ (s.afterOpnd o).opndStorable o (inc8 (s.opnd o)) = true ∧ s.unset.f = false ∧ m = n ∧
        t = ((s.afterOpnd o).setOpnd o (inc8 (s.opnd o))).setF
          (packFlags (decide (inc8 (s.opnd o) = 0#8)) false (incHalf (s.opnd o)) (flagC s.flags)) := by
  simp only [incOp, Op.bind_ok_iff, modifyOpnd_ok_iff, setFlags_keepC_ok_iff, Op.pure_ok_iff]
  have hf : ((s.afterOpnd o).setOpnd o (inc8 (s.opnd o))).flags = s.flags := by cases o <;> simp [State.setOpnd]
  have hu : ((s.afterOpnd o).setOpnd o (inc8 (s.opnd o))).unset.f = s.unset.f := by cases o <;> simp [State.setOpnd]
  constructor
  · rintro ⟨_, _, ⟨h1, h2, rfl, rfl⟩, _, _, ⟨h3, rfl⟩, rfl, rfl⟩
    exact ⟨h1, h2, by rw [← hu]; exact h3, rfl, by rw [hf]⟩
  · rintro ⟨h1, h2, h3, rfl, rfl⟩
    exact ⟨_, _, ⟨h1, h2, rfl, rfl⟩, (), _, ⟨by rw [hu]; exact h3, rfl⟩, rfl, by rw [hf]⟩

theorem decOp_ok_iff (o : Opnd8) (n m : Nat) (s t : State) :
    decOp o n s = .ok m t ↔
      s.opndReady o = true ∧ (s.afterOpnd o).opndStorable o (dec8 (s.opnd o)) = true ∧ s.unset.f = false ∧ m = n ∧
        t = ((s.afterOpnd o).setOpnd o (dec8 (s.opnd o))).setF
          (packFlags (decide (dec8 (s.opnd o) = 0#8)) true (decHalf (s.opnd o)) (flagC s.flags)) := by
  simp only [decOp, Op.bind_ok_iff, modifyOpnd_ok_iff, setFlags_keepC_ok_iff, Op.pure_ok_iff]
  have hf : ((s.afterOpnd o).setOpnd o (dec8 (s.opnd o))).flags = s.flags := by cases o <;> simp [State.setOpnd]
  have hu : ((s.afterOpnd o).setOpnd o (dec8 (s.opnd o))).unset.f = s.unset.f := by cases o <;> simp [State.setOpnd]
  constructor
  · rintro ⟨_, _, ⟨h1, h2, rfl, rfl⟩, _, _, ⟨h3, rfl⟩, rfl, rfl⟩
    exact ⟨h1, h2, by rw [← hu]; exact h3, rfl, by rw [hf]⟩
  · rintro ⟨h1, h2, h3, rfl, rfl⟩
    exact ⟨_, _, ⟨h1, h2, rfl, rfl⟩, (), _, ⟨by rw [hu]; exact h3, rfl⟩, rfl, by rw [hf]⟩

theorem daaOp_ok_iff (n m : Nat) (s t : State) :
    daaOp n s = .ok m t ↔
      s.unset.reg .a = false ∧ s.unset.f = false ∧ m = n ∧
        t = (s.setReg .a (daa8 s.a (flagN s.flags) (flagH s.flags) (flagC s.flags)).1).setF
          (packFlags (decide ((daa8 s.a (flagN s.flags) (flagH s.flags) (flagC s.flags)).1 = 0#8)) (flagN s.flags) false
            (daa8 s.a (flagN s.flags) (flagH s.flags) (flagC s.flags)).2) := by
  simp only [daaOp, Op.bind_ok_iff, readReg_ok_iff, readF_ok_iff, writeReg_ok_iff, setFlags_keepN_ok_iff, Op.pure_ok_iff]
  constructor
  · rintro ⟨_, _, ⟨h1, rfl, rfl⟩, _, _, ⟨h2, rfl, rfl⟩, _, _, rfl, _, _, ⟨h3, rfl⟩, rfl, rfl⟩
    exact ⟨h1, h2, rfl, rfl⟩
  · rintro ⟨h1, h2, rfl, rfl⟩
    exact ⟨_, _, ⟨h1, rfl, rfl⟩, _, _, ⟨h2, rfl, rfl⟩, (), _, rfl, (), _, ⟨h2, rfl⟩, rfl, rfl⟩

theorem cplOp_ok_iff (n m : Nat) (s t : State) :
    cplOp n s = .ok m t ↔
      s.unset.reg .a = false ∧ s.unset.f = false ∧ m = n ∧
        t = (s.setReg .a (~~~s.a)).setF (packFlags (flagZ s.flags) true true (flagC s.flags)) := by
  simp only [cplOp, Op.bind_ok_iff, readReg_ok_iff, writeReg_ok_iff, setFlags_keepZC_ok_iff, Op.pure_ok_iff]
  constructor
  · rintro ⟨_, _, ⟨h1, rfl, rfl⟩, _, _, rfl, _, _, ⟨h2, rfl⟩, rfl, rfl⟩; exact ⟨h1, h2, rfl, rfl⟩
  · rintro ⟨h1, h2, rfl, rfl⟩; exact ⟨_, _, ⟨h1, rfl, rfl⟩, (), _, rfl, (), _, ⟨h2, rfl⟩, rfl, rfl⟩

theorem scfOp_ok_iff (n m : Nat) (s t : State) :
    scfOp n s = .ok m t ↔
      s.unset.f = false ∧ m = n ∧ t = s.setF (packFlags (flagZ s.flags) false false true) := by
  simp only [scfOp, Op.bind_ok_iff, setFlags_keepZ_ok_iff, Op.pure_ok_iff]
  constructor
  · rintro ⟨_, _, ⟨h1, rfl⟩, rfl, rfl⟩; exact ⟨h1, rfl, rfl⟩
  · rintro ⟨h1, rfl, rfl⟩; exact ⟨(), _, ⟨h1, rfl⟩, rfl, rfl⟩

theorem ccfOp_ok_iff (n m : Nat) (s t : State) :
    ccfOp n s = .ok m t ↔
      s.unset.f = false ∧ m = n ∧ t = s.setF (packFlags (flagZ s.flags) false false (!flagC s.flags)) := by
  simp only [ccfOp, Op.bind_ok_iff, readF_ok_iff, setFlags_keepZ_ok_iff, Op.pure_ok_iff]
  constructor
  · rintro ⟨_, _, ⟨h1, rfl, rfl⟩, _, _, ⟨_, rfl⟩, rfl, rfl⟩; exact ⟨h1, rfl, rfl⟩
  · rintro ⟨h1, rfl, rfl⟩; exact ⟨_, _, ⟨h1, rfl, rfl⟩, (), _, ⟨h1, rfl⟩, rfl, rfl⟩

/-! ### 16-bit arithmetic -/

theorem incRpOp_ok_iff (p : Rp) (n m : Nat) (s t : State) :
    incRpOp p n s = .ok m t ↔
      s.unset.pair p.reg16 = false ∧ m = n ∧ t = s.setPair p.reg16 (inc16 (s.pair p.reg16)) := by
  simp only [incRpOp, Op.bind_ok_iff, readPair_ok_iff, writePair_ok_iff, Op.pure_ok_iff]
  constructor
  · rintro ⟨_, _, ⟨h1, rfl, rfl⟩, _, _, rfl, rfl, rfl⟩; exact ⟨h1, rfl, rfl⟩
  · rintro ⟨h1, rfl, rfl⟩; exact ⟨_, _, ⟨h1, rfl, rfl⟩, (), _, rfl, rfl, rfl⟩

theorem decRpOp_ok_iff (p : Rp) (n m : Nat) (s t : State) :
    decRpOp p n s = .ok m t ↔
      s.unset.pair p.reg16 = false ∧ m = n ∧ t = s.setPair p.reg16 (dec16 (s.pair p.reg16)) := by
  simp only [decRpOp, Op.bind_ok_iff, readPair_ok_iff, writePair_ok_iff, Op.pure_ok_iff]
  constructor
  · rintro ⟨_, _, ⟨h1, rfl, rfl⟩, _, _, rfl, rfl, rfl⟩; exact ⟨h1, rfl, rfl⟩
  · rintro ⟨h1, rfl, rfl⟩; exact ⟨_, _, ⟨h1, rfl, rfl⟩, (), _, rfl, rfl, rfl⟩

theorem addHlOp_ok_iff (p : Rp) (n m : Nat) (s t : State) :
    addHlOp p n s = .ok m t ↔
      s.unset.pair p.reg16 = false ∧ s.unset.pair .hl = false ∧ s.unset.f = false ∧ m = n ∧
        t = (s.setF (packFlags (flagZ s.flags) false (addHl16 (s.pair .hl) (s.pair p.reg16)).2.1
          (addHl16 (s.pair .hl) (s.pair p.reg16)).2.2)).setPair .hl (addHl16 (s.pair .hl) (s.pair p.reg16)).1 := by
  simp only [addHlOp, Op.bind_ok_iff, readPair_ok_iff, writePair_ok_iff, setFlags_keepZ_ok_iff, Op.pure_ok_iff]
  constructor
  · rintro ⟨_, _, ⟨h1, rfl, rfl⟩, _, _, ⟨h2, rfl, rfl⟩, _, _, ⟨h3, rfl⟩, _, _, rfl, rfl, rfl⟩
    exact ⟨h1, h2, h3, rfl, rfl⟩
  · rintro ⟨h1, h2, h3, rfl, rfl⟩
    exact ⟨_, _, ⟨h1, rfl, rfl⟩, _, _, ⟨h2, rfl, rfl⟩, (), _, ⟨h3, rfl⟩, (), _, rfl, rfl, rfl⟩

theorem addSpOp_ok_iff (e : Byte) (n m : Nat) (s t : State) :
    addSpOp e n s = .ok m t ↔
      s.unset.sp = false ∧ m = n ∧
        t = (s.setF (packFlags false false (addSpDisp s.sp e).2.1 (addSpDisp s.sp e).2.2)).setSp (addSpDisp s.sp e).1 := by
  simp only [addSpOp, Op.bind_ok_iff, readPair_ok_iff, writePair_ok_iff, setFlags_all_ok_iff, Op.pure_ok_iff]
  constructor
  · rintro ⟨_, _, ⟨h1, rfl, rfl⟩, _, _, rfl, _, _, rfl, rfl, rfl⟩; exact ⟨h1, rfl, rfl⟩
  · rintro ⟨h1, rfl, rfl⟩; exact ⟨_, _, ⟨h1, rfl, rfl⟩, (), _, rfl, (), _, rfl, rfl, rfl⟩

/-! ### Rotates, shifts, bits -/

theorem rotAOp_ok_iff (op : RotOp) (n m : Nat) (s t : State) :
    rotAOp op n s = .ok m t ↔
      (rotUsesCarry op = true → s.unset.f = false) ∧ s.unset.reg .a = false ∧ m = n ∧
        t = (s.setReg .a (rotate8 op s.a (rotUsesCarry op && flagC s.flags)).1).setF
          (packFlags false false false (rotate8 op s.a (rotUsesCarry op && flagC s.flags)).2) := by
  simp only [rotAOp, Op.bind_ok_iff, readCarryIf_ok_iff, readReg_ok_iff, writeReg_ok_iff, setFlags_all_ok_iff,
    Op.pure_ok_iff]
  constructor
  · rintro ⟨_, _, ⟨h1, rfl, rfl⟩, _, _, ⟨h2, rfl, rfl⟩, _, _, rfl, _, _, rfl, rfl, rfl⟩; exact ⟨h1, h2, rfl, rfl⟩
  · rintro ⟨h1, h2, rfl, rfl⟩
    exact ⟨_, _, ⟨h1, rfl, rfl⟩, _, _, ⟨h2, rfl, rfl⟩, (), _, rfl, (), _, rfl, rfl, rfl⟩

theorem rotOp_ok_iff (op : RotOp) (o : Opnd8) (n m : Nat) (s t : State) :
    rotOp op o n s = .ok m t ↔
      (rotUsesCarry op = true → s.unset.f = false) ∧ s.opndReady o = true ∧
        (s.afterOpnd o).opndStorable o (rotate8 op (s.opnd o) (rotUsesCarry op && flagC s.flags)).1 = true ∧ m = n ∧
        t = ((s.afterOpnd o).setOpnd o (rotate8 op (s.opnd o) (rotUsesCarry op && flagC s.flags)).1).setF
          (packFlags (decide ((rotate8 op (s.opnd o) (rotUsesCarry op && flagC s.flags)).1 = 0#8)) false false
            (rotate8 op (s.opnd o) (rotUsesCarry op && flagC s.flags)).2) := by
  simp only [rotOp, Op.bind_ok_iff, readCarryIf_ok_iff, modifyOpnd_ok_iff, setFlags_all_ok_iff, Op.pure_ok_iff]
  constructor
  · rintro ⟨_, _, ⟨h1, rfl, rfl⟩, _, _, ⟨h2, h3, rfl, rfl⟩, _, _, rfl, rfl, rfl⟩; exact ⟨h1, h2, h3, rfl, rfl⟩
  · rintro ⟨h1, h2, h3, rfl, rfl⟩
    exact ⟨_, _, ⟨h1, rfl, rfl⟩, _, _, ⟨h2, h3, rfl, rfl⟩, (), _, rfl, rfl, rfl⟩

theorem bitOp_ok_iff (b : Nat) (o : Opnd8) (n m : Nat) (s t : State) :
    bitOp b o n s = .ok m t ↔
      s.opndReady o = true ∧ s.unset.f = false ∧ m = n ∧
        t = (s.afterOpnd o).setF (packFlags (!(s.opnd o).getLsbD b) false true (flagC s.flags)) := by
  simp only [bitOp, Op.bind_ok_iff, readOpnd_ok_iff, setFlags_keepC_ok_iff, Op.pure_ok_iff]
  constructor
  · rintro ⟨_, _, ⟨h1, rfl, rfl⟩, _, _, ⟨h2, rfl⟩, rfl, rfl⟩; exact ⟨h1, by simpa using h2, rfl, by simp⟩
  · rintro ⟨h1, h2, rfl, rfl⟩
    exact ⟨_, _, ⟨h1, rfl, rfl⟩, (), _, ⟨by simpa using h2, rfl⟩, rfl, by simp⟩

theorem resOp_ok_iff (b : Nat) (o : Opnd8) (n m : Nat) (s t : State) :
    resOp b o n s = .ok m t ↔
      s.opndReady o = true ∧ (s.afterOpnd o).opndStorable o (clearBit8 b (s.opnd o)) = true ∧ m = n ∧
        t = (s.afterOpnd o).setOpnd o (clearBit8 b (s.opnd o)) := by
  simp only [resOp, Op.bind_ok_iff, modifyOpnd_ok_iff, Op.pure_ok_iff]
  constructor
  · rintro ⟨_, _, ⟨h1, h2, rfl, rfl⟩, rfl, rfl⟩; exact ⟨h1, h2, rfl, rfl⟩
  · rintro ⟨h1, h2, rfl, rfl⟩; exact ⟨_, _, ⟨h1, h2, rfl, rfl⟩, rfl, rfl⟩

theorem setOp_ok_iff (b : Nat) (o : Opnd8) (n m : Nat) (s t : State) :
    setOp b o n s = .ok m t ↔
      s.opndReady o = true ∧ (s.afterOpnd o).opndStorable o (setBit8 b (s.opnd o)) = true ∧ m = n ∧
        t = (s.afterOpnd o).setOpnd o (setBit8 b (s.opnd o)) := by
  simp only [setOp, Op.bind_ok_iff, modifyOpnd_ok_iff, Op.pure_ok_iff]
  constructor
  · rintro ⟨_, _, ⟨h1, h2, rfl, rfl⟩, rfl, rfl⟩; exact ⟨h1, h2, rfl, rfl⟩
  · rintro ⟨h1, h2, rfl, rfl⟩; exact ⟨_, _, ⟨h1, h2, rfl, rfl⟩, rfl, rfl⟩

/-! ### Control flow -/

theorem jpOp_ok_iff (a : Word) (n m : Nat) (s t : State) : jpOp a n s = .ok m t ↔ m = n ∧ t = s.setPc a := by
  simp only [jpOp, Op.bind_ok_iff, writePc_ok_iff, Op.pure_ok_iff]
  constructor
  · rintro ⟨_, _, rfl, rfl, rfl⟩; exact ⟨rfl, rfl⟩
  · rintro ⟨rfl, rfl⟩; exact ⟨(), _, rfl, rfl, rfl⟩

theorem jpCcOp_ok_iff (k : Cond) (a : Word) (x y m : Nat) (s t : State) :
    jpCcOp k a x y s = .ok m t ↔
      s.unset.f = false ∧ (if condHolds k s.flags then m = x ∧ t = s.setPc a else m = y ∧ t = s) := by
  simp only [jpCcOp, Op.bind_ok_iff, readF_ok_iff]
  constructor
  · rintro ⟨_, _, ⟨h1, rfl, rfl⟩, h⟩
    refine ⟨h1, ?_⟩
    split at h <;> rename_i hc
    · rw [if_pos hc]; exact (jpOp_ok_iff a x m _ t).mp h
    · rw [if_neg hc]; simpa using h
  · rintro ⟨h1, h⟩
    refine ⟨_, _, ⟨h1, rfl, rfl⟩, ?_⟩
    split at h <;> rename_i hc
    · rw [if_pos hc]; exact (jpOp_ok_iff a x m _ t).mpr h
    · rw [if_neg hc]; simpa using h

theorem jpHlOp_ok_iff (n m : Nat) (s t : State) :
    jpHlOp n s = .ok m t ↔ s.unset.pair .hl = false ∧ m = n ∧ t = s.setPc (s.pair .hl) := by
  simp only [jpHlOp, Op.bind_ok_iff, readPair_ok_iff, writePc_ok_iff, Op.pure_ok_iff]
  constructor
  · rintro ⟨_, _, ⟨h1, rfl, rfl⟩, _, _, rfl, rfl, rfl⟩; exact ⟨h1, rfl, rfl⟩
  · rintro ⟨h1, rfl, rfl⟩; exact ⟨_, _, ⟨h1, rfl, rfl⟩, (), _, rfl, rfl, rfl⟩

theorem jrOp_ok_iff (e : Byte) (n m : Nat) (s t : State) :
    jrOp e n s = .ok m t ↔ m = n ∧ t = s.setPc (relTarget s e) := by
  simp only [jrOp, Op.bind_ok_iff, Op.state_ok_iff, writePc_ok_iff, Op.pure_ok_iff]
  constructor
  · rintro ⟨_, _, ⟨rfl, rfl⟩, _, _, rfl, rfl, rfl⟩; exact ⟨rfl, rfl⟩
  · rintro ⟨rfl, rfl⟩; exact ⟨_, _, ⟨rfl, rfl⟩, (), _, rfl, rfl, rfl⟩

theorem jrCcOp_ok_iff (k : Cond) (e : Byte) (x y m : Nat) (s t : State) :
    jrCcOp k e x y s = .ok m t ↔
      s.unset.f = false ∧ (if condHolds k s.flags then m = x ∧ t = s.setPc (relTarget s e) else m = y ∧ t = s) := by
  simp only [jrCcOp, Op.bind_ok_iff, readF_ok_iff]
  constructor
  · rintro ⟨_, _, ⟨h1, rfl, rfl⟩, h⟩
    refine ⟨h1, ?_⟩
    split at h <;> rename_i hc
    · rw [if_pos hc]; exact (jrOp_ok_iff e x m _ t).mp h
    · rw [if_neg hc]; simpa using h
  · rintro ⟨h1, h⟩
    refine ⟨_, _, ⟨h1, rfl, rfl⟩, ?_⟩
    split at h <;> rename_i hc
    · rw [if_pos hc]; exact (jrOp_ok_iff e x m _ t).mpr h
    · rw [if_neg hc]; simpa using h

theorem callTo_ok_iff (a : Word) (s t : State) (x : Unit) :
    callTo a s = .ok x t ↔ s.canPush s.pc = true ∧ t = (s.pushed s.pc).setPc a := by
  simp only [callTo, Op.bind_ok_iff, Op.state_ok_iff, push16_ok_iff, writePc_ok_iff]
  constructor
  · rintro ⟨_, _, ⟨rfl, rfl⟩, _, _, ⟨h1, rfl⟩, rfl⟩; exact ⟨h1, rfl⟩
  · rintro ⟨h1, rfl⟩; exact ⟨_, _, ⟨rfl, rfl⟩, (), _, ⟨h1, rfl⟩, rfl⟩

theorem callOp_ok_iff (a : Word) (n m : Nat) (s t : State) :
    callOp a n s = .ok m t ↔ s.canPush s.pc = true ∧ m = n ∧ t = (s.pushed s.pc).setPc a := by
  simp only [callOp, Op.bind_ok_iff, callTo_ok_iff, Op.pure_ok_iff]
  constructor
  · rintro ⟨_, _, ⟨h1, rfl⟩, rfl, rfl⟩; exact ⟨h1, rfl, rfl⟩
  · rintro ⟨h1, rfl, rfl⟩; exact ⟨(), _, ⟨h1, rfl⟩, rfl, rfl⟩

theorem callCcOp_ok_iff (k : Cond) (a : Word) (x y m : Nat) (s t : State) :
    callCcOp k a x y s = .ok m t ↔
      s.unset.f = false ∧
        (if condHolds k s.flags then s.canPush s.pc = true ∧ m = x ∧ t = (s.pushed s.pc).setPc a else m = y ∧ t = s) := by
  simp only [callCcOp, Op.bind_ok_iff, readF_ok_iff]
  constructor
  · rintro ⟨_, _, ⟨h1, rfl, rfl⟩, h⟩
    refine ⟨h1, ?_⟩
    split at h <;> rename_i hc
    · rw [if_pos hc]; exact (callOp_ok_iff a x m _ t).mp h
    · rw [if_neg hc]; simpa using h
  · rintro ⟨h1, h⟩
    refine ⟨_, _, ⟨h1, rfl, rfl⟩, ?_⟩
    split at h <;> rename_i hc
    · rw [if_pos hc]; exact (callOp_ok_iff a x m _ t).mpr h
    · rw [if_neg hc]; simpa using h

theorem rstOp_ok_iff (a : Word) (n m : Nat) (s t : State) :
    rstOp a n s = .ok m t ↔ s.canPush s.pc = true ∧ m = n ∧ t = (s.pushed s.pc).setPc a :=
  callOp_ok_iff a n m s t

theorem retTo_ok_iff (s t : State) (x : Unit) :
    retTo s = .ok x t ↔ s.canPop = true ∧ t = s.popped.setPc s.top := by
  simp only [retTo, Op.bind_ok_iff, pop16_ok_iff, writePc_ok_iff]
  constructor
  · rintro ⟨_, _, ⟨h1, rfl, rfl⟩, rfl⟩; exact ⟨h1, rfl⟩
  · rintro ⟨h1, rfl⟩; exact ⟨_, _, ⟨h1, rfl, rfl⟩, rfl⟩

theorem retOp_ok_iff (n m : Nat) (s t : State) :
    retOp n s = .ok m t ↔ s.canPop = true ∧ m = n ∧ t = s.popped.setPc s.top := by
  simp only [retOp, Op.bind_ok_iff, retTo_ok_iff, Op.pure_ok_iff]
  constructor
  · rintro ⟨_, _, ⟨h1, rfl⟩, rfl, rfl⟩; exact ⟨h1, rfl, rfl⟩
  · rintro ⟨h1, rfl, rfl⟩; exact ⟨(), _, ⟨h1, rfl⟩, rfl, rfl⟩

theorem retCcOp_ok_iff (k : Cond) (x y m : Nat) (s t : State) :
    retCcOp k x y s = .ok m t ↔
      s.unset.f = false ∧
        (if condHolds k s.flags then s.canPop = true ∧ m = x ∧ t = s.popped.setPc s.top
          else m = y ∧ t = s) := by
  simp only [retCcOp, Op.bind_ok_iff, readF_ok_iff]
  constructor
  · rintro ⟨_, _, ⟨h1, rfl, rfl⟩, h⟩
    refine ⟨h1, ?_⟩
    split at h <;> rename_i hc
    · rw [if_pos hc]; exact (retOp_ok_iff x m _ t).mp h
    · rw [if_neg hc]; simpa using h
  · rintro ⟨h1, h⟩
    refine ⟨_, _, ⟨h1, rfl, rfl⟩, ?_⟩
    split at h <;> rename_i hc
    · rw [if_pos hc]; exact (retOp_ok_iff x m _ t).mpr h
    · rw [if_neg hc]; simpa using h

theorem retiOp_ok_iff (n m : Nat) (s t : State) :
    retiOp n s = .ok m t ↔
      s.canPop = true ∧ m = n ∧
        t = { s.popped.setPc s.top with ime := true, eiPending := false } := by
  simp only [retiOp, returnFromInterrupt, Op.bind_ok_iff, pop16_ok_iff, writePc_ok_iff, Op.update_ok_iff, Op.pure_ok_iff]
  constructor
  · rintro ⟨_, _, ⟨_, _, ⟨h1, rfl, rfl⟩, _, _, rfl, rfl⟩, rfl, rfl⟩; exact ⟨h1, rfl, rfl⟩
  · rintro ⟨h1, rfl, rfl⟩; exact ⟨(), _, ⟨_, _, ⟨h1, rfl, rfl⟩, (), _, rfl, rfl⟩, rfl, rfl⟩

/-! ### System -/

theorem nopOp_ok_iff (n m : Nat) (s t : State) : nopOp n s = .ok m t ↔ m = n ∧ t = s := Op.pure_ok_iff n m s t

theorem diOp_ok_iff (n m : Nat) (s t : State) :
    diOp n s = .ok m t ↔ m = n ∧ t = { s with ime := false, eiPending := false } := by
  simp only [diOp, Op.bind_ok_iff, Op.update_ok_iff, Op.pure_ok_iff]
  constructor
  · rintro ⟨_, _, rfl, rfl, rfl⟩; exact ⟨rfl, rfl⟩
  · rintro ⟨rfl, rfl⟩; exact ⟨(), _, rfl, rfl, rfl⟩

theorem eiOp_ok_iff (n m : Nat) (s t : State) :
    eiOp n s = .ok m t ↔ m = n ∧ t = { s with eiPending := true } := by
  simp only [eiOp, Op.bind_ok_iff, Op.update_ok_iff, Op.pure_ok_iff]
  constructor
  · rintro ⟨_, _, rfl, rfl, rfl⟩; exact ⟨rfl, rfl⟩
  · rintro ⟨rfl, rfl⟩; exact ⟨(), _, rfl, rfl, rfl⟩

@[simp] theorem readPending_ok_iff (s t : State) (p : BitVec 5) :
    readPending s = .ok p t ↔
      s.unset.ie = false ∧ s.unset.ifr = false ∧ p = pendingOf s.ie s.ifr ∧ t = s := by
  simp only [readPending, Op.bind_ok_iff, readIe_ok_iff, readIf_ok_iff, Op.pure_ok_iff]
  constructor
  · rintro ⟨_, _, ⟨h1, rfl, rfl⟩, _, _, ⟨h2, rfl, rfl⟩, rfl, rfl⟩; exact ⟨h1, h2, rfl, rfl⟩
  · rintro ⟨h1, h2, rfl, rfl⟩; exact ⟨_, _, ⟨h1, rfl, rfl⟩, _, _, ⟨h2, rfl, rfl⟩, rfl, rfl⟩

theorem haltOp_ok_iff (n m : Nat) (s t : State) :
    haltOp n s = .ok m t ↔
      m = n ∧
        ((s.ime = true ∧ t = { s with halted := true }) ∨
          (s.ime = false ∧ s.unset.ie = false ∧ s.unset.ifr = false ∧
            ((pendingOf s.ie s.ifr = 0#5 ∧ t = { s with halted := true }) ∨
              (pendingOf s.ie s.ifr ≠ 0#5 ∧ s.haltBugPolicy = .reproduce ∧ t = { s with haltBug := true })))) := by
  simp only [haltOp, Op.bind_ok_iff, Op.state_ok_iff]
  constructor
  · rintro ⟨_, _, ⟨hx, hy⟩, h⟩
    rw [hx, hy] at h
    split at h <;> rename_i hi
    · simp only [Op.bind_ok_iff, Op.update_ok_iff, Op.pure_ok_iff] at h
      obtain ⟨_, _, rfl, rfl, rfl⟩ := h
      exact ⟨rfl, .inl ⟨hi, rfl⟩⟩
    · simp only [Op.bind_ok_iff, readPending_ok_iff] at h
      obtain ⟨_, _, ⟨h1, h2, hz, hw⟩, h⟩ := h
      rw [hz, hw] at h
      split at h <;> rename_i hp
      · simp only [Op.bind_ok_iff, Op.update_ok_iff, Op.pure_ok_iff] at h
        obtain ⟨_, _, rfl, rfl, rfl⟩ := h
        exact ⟨rfl, .inr ⟨by simpa using hi, h1, h2, .inl ⟨hp, rfl⟩⟩⟩
      · cases hq : s.haltBugPolicy with
        | fault => simp [hq, raiseHaltBugFault] at h
        | reproduce =>
          simp only [hq, Op.bind_ok_iff, Op.update_ok_iff, Op.pure_ok_iff] at h
          obtain ⟨_, _, rfl, rfl, rfl⟩ := h
          exact ⟨rfl, .inr ⟨by simpa using hi, h1, h2, .inr ⟨hp, rfl, rfl⟩⟩⟩
  · rintro ⟨rfl, ⟨hi, rfl⟩ | ⟨hi, h1, h2, ⟨hp, rfl⟩ | ⟨hp, hq, rfl⟩⟩⟩
    · refine ⟨_, _, ⟨rfl, rfl⟩, ?_⟩
      simp only [hi, if_true, Op.bind_ok_iff, Op.update_ok_iff, Op.pure_ok_iff]
      exact ⟨(), _, rfl, trivial, rfl⟩
    · refine ⟨_, _, ⟨rfl, rfl⟩, ?_⟩
      simp only [hi, Bool.false_eq_true, if_false, Op.bind_ok_iff, readPending_ok_iff]
      refine ⟨_, _, ⟨h1, h2, rfl, rfl⟩, ?_⟩
      simp only [hp, if_true, Op.bind_ok_iff, Op.update_ok_iff, Op.pure_ok_iff]
      exact ⟨(), _, rfl, trivial, by simp only [hi]⟩
    · refine ⟨_, _, ⟨rfl, rfl⟩, ?_⟩
      simp only [hi, Bool.false_eq_true, if_false, Op.bind_ok_iff, readPending_ok_iff]
      refine ⟨_, _, ⟨h1, h2, rfl, rfl⟩, ?_⟩
      simp only [hp, if_false, hq, Op.bind_ok_iff, Op.update_ok_iff, Op.pure_ok_iff]
      exact ⟨(), _, rfl, trivial, by simp only [hi]⟩

theorem stopOp_ok_iff (n m : Nat) (s t : State) :
    stopOp n s = .ok m t ↔ s.stopPolicy = .waitJoypad ∧ m = n ∧ t = { s with stopped := true } := by
  simp only [stopOp, Op.bind_ok_iff, Op.state_ok_iff]
  constructor
  · rintro ⟨_, _, ⟨hx, hy⟩, h⟩
    rw [hx, hy] at h
    cases hq : s.stopPolicy with
    | fault => simp [hq, raiseStopFault] at h
    | waitJoypad =>
      simp only [hq, Op.bind_ok_iff, Op.update_ok_iff, Op.pure_ok_iff] at h
      obtain ⟨_, _, rfl, rfl, rfl⟩ := h
      exact ⟨rfl, rfl, rfl⟩
  · rintro ⟨hq, rfl, rfl⟩
    refine ⟨_, _, ⟨rfl, rfl⟩, ?_⟩
    simp only [hq, Op.bind_ok_iff, Op.update_ok_iff, Op.pure_ok_iff]
    exact ⟨(), _, rfl, trivial, rfl⟩

theorem illegalOpcode_ok (opcode : Byte) (m : Nat) (s t : State) : illegalOpcode opcode s = .ok m t ↔ False := by
  simp [illegalOpcode, raiseDecodeFault]

theorem illegalOpcode_error_iff (opcode : Byte) (s t : State) (f : Fault) :
    illegalOpcode opcode s = .error f t ↔ f = .decodeFault s.stepPc opcode s.cycles s.bus ∧ t = s := by
  simp [illegalOpcode, raiseDecodeFault]

end Sys2Proof.Machine
end

