-- ==== Sys2Proof/Laws/Shape.lean ====
section
/-! SUPPORT. The meanings by shape: `shapeOf` names, for every instruction, the shared operation its meaning runs and with
which operands, and `exec_shape` proves it; a claim over all instructions is then a case split over the shapes. -/

namespace Sys2Proof.Machine

/-- The shared operations of the seven families with their arguments. -/
inductive Shape where
  | ld (dst src : Opnd8) (n : Nat)
  | ldImm (dst : Opnd8) (v : Byte) (n : Nat)
  | loadA (m : MemOpnd) (n : Nat)
  | storeA (m : MemOpnd) (n : Nat)
  | ldRp (p : Rp) (v : Word) (n : Nat)
  | storeSp (a : Word) (n : Nat)
  | ldSpHl (n : Nat)
  | push (p : Rp2) (n : Nat)
  | pop (p : Rp2) (n : Nat)
  | ldHlSp (e : Byte) (n : Nat)
  | alu (op : AluOp) (src : Src8) (n : Nat)
  | inc (o : Opnd8) (n : Nat)
  | dec (o : Opnd8) (n : Nat)
  | daa (n : Nat)
  | cpl (n : Nat)
  | scf (n : Nat)
  | ccf (n : Nat)
  | incRp (p : Rp) (n : Nat)
  | decRp (p : Rp) (n : Nat)
  | addHl (p : Rp) (n : Nat)
  | addSp (e : Byte) (n : Nat)
  | rotA (op : RotOp) (n : Nat)
  | rot (op : RotOp) (o : Opnd8) (n : Nat)
  | bit (b : Nat) (o : Opnd8) (n : Nat)
  | res (b : Nat) (o : Opnd8) (n : Nat)
  | set (b : Nat) (o : Opnd8) (n : Nat)
  | jp (a : Word) (n : Nat)
  | jpCc (k : Cond) (a : Word) (taken notTaken : Nat)
  | jpHl (n : Nat)
  | jr (e : Byte) (n : Nat)
  | jrCc (k : Cond) (e : Byte) (taken notTaken : Nat)
  | call (a : Word) (n : Nat)
  | callCc (k : Cond) (a : Word) (taken notTaken : Nat)
  | ret (n : Nat)
  | retCc (k : Cond) (taken notTaken : Nat)
  | reti (n : Nat)
  | rst (a : Word) (n : Nat)
  | nop (n : Nat)
  | halt (n : Nat)
  | stop (n : Nat)
  | di (n : Nat)
  | ei (n : Nat)
  | illegal (opcode : Byte)

/-- The operation a shape stands for. -/
def Shape.op : Shape → Op Nat
  | .ld dst src n => ldOp dst src n
  | .ldImm dst v n => ldImmOp dst v n
  | .loadA m n => loadAOp m n
  | .storeA m n => storeAOp m n
  | .ldRp p v n => ldRpOp p v n
  | .storeSp a n => storeSpOp a n
  | .ldSpHl n => ldSpHlOp n
  | .push p n => pushOp p n
  | .pop p n => popOp p n
  | .ldHlSp e n => ldHlSpOp e n
  | .alu op src n => aluOp op src n
  | .inc o n => incOp o n
  | .dec o n => decOp o n
  | .daa n => daaOp n
  | .cpl n => cplOp n
  | .scf n => scfOp n
  | .ccf n => ccfOp n
  | .incRp p n => incRpOp p n
  | .decRp p n => decRpOp p n
  | .addHl p n => addHlOp p n
  | .addSp e n => addSpOp e n
  | .rotA op n => rotAOp op n
  | .rot op o n => rotOp op o n
  | .bit b o n => bitOp b o n
  | .res b o n => resOp b o n
  | .set b o n => setOp b o n
  | .jp a n => jpOp a n
  | .jpCc k a x y => jpCcOp k a x y
  | .jpHl n => jpHlOp n
  | .jr e n => jrOp e n
  | .jrCc k e x y => jrCcOp k e x y
  | .call a n => callOp a n
  | .callCc k a x y => callCcOp k a x y
  | .ret n => retOp n
  | .retCc k x y => retCcOp k x y
  | .reti n => retiOp n
  | .rst a n => rstOp a n
  | .nop n => nopOp n
  | .halt n => haltOp n
  | .stop n => stopOp n
  | .di n => diOp n
  | .ei n => eiOp n
  | .illegal opcode => illegalOpcode opcode

/-- The shape of a CB instruction, by the fields of its second byte. -/
def cbShape (op2 : Byte) : Shape :=
  let y := field3 op2 3
  let o := opnd8 (field3 op2 0)
  match field2 op2 6 with
  | .v0 => .rot (rotOfField y) o (cbCycles o 8 16)
  | .v1 => .bit (bitNumber y) o (cbCycles o 8 12)
  | .v2 => .res (bitNumber y) o (cbCycles o 8 16)
  | .v3 => .set (bitNumber y) o (cbCycles o 8 16)

/-- The shape of every instruction's meaning. -/
def shapeOf : Instr → Shape
  | .nop => .nop 4
  | .ldBcD16 n => .ldRp .bc n 12
  | .ldIndBcA => .storeA .indBc 8
  | .incBc => .incRp .bc 8
  | .incB => .inc (.reg .b) 4
  | .decB => .dec (.reg .b) 4
  | .ldBD8 n => .ldImm (.reg .b) n 8
  | .rlca => .rotA .rlc 4
  | .ldIndA16Sp a => .storeSp a 20
  | .addHlBc => .addHl .bc 8
  | .ldAIndBc => .loadA .indBc 8
  | .decBc => .decRp .bc 8
  | .incC => .inc (.reg .c) 4
  | .decC => .dec (.reg .c) 4
  | .ldCD8 n => .ldImm (.reg .c) n 8
  | .rrca => .rotA .rrc 4
  | .stop _ => .stop 4
  | .ldDeD16 n => .ldRp .de n 12
  | .ldIndDeA => .storeA .indDe 8
  | .incDe => .incRp .de 8
  | .incD => .inc (.reg .d) 4
  | .decD => .dec (.reg .d) 4
  | .ldDD8 n => .ldImm (.reg .d) n 8
  | .rla => .rotA .rl 4
  | .jrE8 e => .jr e 12
  | .addHlDe => .addHl .de 8
  | .ldAIndDe => .loadA .indDe 8
  | .decDe => .decRp .de 8
  | .incE => .inc (.reg .e) 4
  | .decE => .dec (.reg .e) 4
  | .ldED8 n => .ldImm (.reg .e) n 8
  | .rra => .rotA .rr 4
  | .jrNzE8 e => .jrCc .nz e 12 8
  | .ldHlD16 n => .ldRp .hl n 12
  | .ldIndHlIncA => .storeA .indHlInc 8
  | .incHl => .incRp .hl 8
  | .incH => .inc (.reg .h) 4
  | .decH => .dec (.reg .h) 4
  | .ldHD8 n => .ldImm (.reg .h) n 8
  | .daa => .daa 4
  | .jrZE8 e => .jrCc .z e 12 8
  | .addHlHl => .addHl .hl 8
  | .ldAIndHlInc => .loadA .indHlInc 8
  | .decHl => .decRp .hl 8
  | .incL => .inc (.reg .l) 4
  | .decL => .dec (.reg .l) 4
  | .ldLD8 n => .ldImm (.reg .l) n 8
  | .cpl => .cpl 4
  | .jrNcE8 e => .jrCc .nc e 12 8
  | .ldSpD16 n => .ldRp .sp n 12
  | .ldIndHlDecA => .storeA .indHlDec 8
  | .incSp => .incRp .sp 8
  | .incIndHl => .inc .indHl 12
  | .decIndHl => .dec .indHl 12
  | .ldIndHlD8 n => .ldImm .indHl n 12
  | .scf => .scf 4
  | .jrCE8 e => .jrCc .c e 12 8
  | .addHlSp => .addHl .sp 8
  | .ldAIndHlDec => .loadA .indHlDec 8
  | .decSp => .decRp .sp 8
  | .incA => .inc (.reg .a) 4
  | .decA => .dec (.reg .a) 4
  | .ldAD8 n => .ldImm (.reg .a) n 8
  | .ccf => .ccf 4
  | .ldBB => .ld (.reg .b) (.reg .b) 4
  | .ldBC => .ld (.reg .b) (.reg .c) 4
  | .ldBD => .ld (.reg .b) (.reg .d) 4
  | .ldBE => .ld (.reg .b) (.reg .e) 4
  | .ldBH => .ld (.reg .b) (.reg .h) 4
  | .ldBL => .ld (.reg .b) (.reg .l) 4
  | .ldBIndHl => .ld (.reg .b) .indHl 8
  | .ldBA => .ld (.reg .b) (.reg .a) 4
  | .ldCB => .ld (.reg .c) (.reg .b) 4
  | .ldCC => .ld (.reg .c) (.reg .c) 4
  | .ldCD => .ld (.reg .c) (.reg .d) 4
  | .ldCE => .ld (.reg .c) (.reg .e) 4
  | .ldCH => .ld (.reg .c) (.reg .h) 4
  | .ldCL => .ld (.reg .c) (.reg .l) 4
  | .ldCIndHl => .ld (.reg .c) .indHl 8
  | .ldCA => .ld (.reg .c) (.reg .a) 4
  | .ldDB => .ld (.reg .d) (.reg .b) 4
  | .ldDC => .ld (.reg .d) (.reg .c) 4
  | .ldDD => .ld (.reg .d) (.reg .d) 4
  | .ldDE => .ld (.reg .d) (.reg .e) 4
  | .ldDH => .ld (.reg .d) (.reg .h) 4
  | .ldDL => .ld (.reg .d) (.reg .l) 4
  | .ldDIndHl => .ld (.reg .d) .indHl 8
  | .ldDA => .ld (.reg .d) (.reg .a) 4
  | .ldEB => .ld (.reg .e) (.reg .b) 4
  | .ldEC => .ld (.reg .e) (.reg .c) 4
  | .ldED => .ld (.reg .e) (.reg .d) 4
  | .ldEE => .ld (.reg .e) (.reg .e) 4
  | .ldEH => .ld (.reg .e) (.reg .h) 4
  | .ldEL => .ld (.reg .e) (.reg .l) 4
  | .ldEIndHl => .ld (.reg .e) .indHl 8
  | .ldEA => .ld (.reg .e) (.reg .a) 4
  | .ldHB => .ld (.reg .h) (.reg .b) 4
  | .ldHC => .ld (.reg .h) (.reg .c) 4
  | .ldHD => .ld (.reg .h) (.reg .d) 4
  | .ldHE => .ld (.reg .h) (.reg .e) 4
  | .ldHH => .ld (.reg .h) (.reg .h) 4
  | .ldHL => .ld (.reg .h) (.reg .l) 4
  | .ldHIndHl => .ld (.reg .h) .indHl 8
  | .ldHA => .ld (.reg .h) (.reg .a) 4
  | .ldLB => .ld (.reg .l) (.reg .b) 4
  | .ldLC => .ld (.reg .l) (.reg .c) 4
  | .ldLD => .ld (.reg .l) (.reg .d) 4
  | .ldLE => .ld (.reg .l) (.reg .e) 4
  | .ldLH => .ld (.reg .l) (.reg .h) 4
  | .ldLL => .ld (.reg .l) (.reg .l) 4
  | .ldLIndHl => .ld (.reg .l) .indHl 8
  | .ldLA => .ld (.reg .l) (.reg .a) 4
  | .ldIndHlB => .ld .indHl (.reg .b) 8
  | .ldIndHlC => .ld .indHl (.reg .c) 8
  | .ldIndHlD => .ld .indHl (.reg .d) 8
  | .ldIndHlE => .ld .indHl (.reg .e) 8
  | .ldIndHlH => .ld .indHl (.reg .h) 8
  | .ldIndHlL => .ld .indHl (.reg .l) 8
  | .halt => .halt 4
  | .ldIndHlA => .ld .indHl (.reg .a) 8
  | .ldAB => .ld (.reg .a) (.reg .b) 4
  | .ldAC => .ld (.reg .a) (.reg .c) 4
  | .ldAD => .ld (.reg .a) (.reg .d) 4
  | .ldAE => .ld (.reg .a) (.reg .e) 4
  | .ldAH => .ld (.reg .a) (.reg .h) 4
  | .ldAL => .ld (.reg .a) (.reg .l) 4
  | .ldAIndHl => .ld (.reg .a) .indHl 8
  | .ldAA => .ld (.reg .a) (.reg .a) 4
  | .addAB => .alu .add (.reg .b) 4
  | .addAC => .alu .add (.reg .c) 4
  | .addAD => .alu .add (.reg .d) 4
  | .addAE => .alu .add (.reg .e) 4
  | .addAH => .alu .add (.reg .h) 4
  | .addAL => .alu .add (.reg .l) 4
  | .addAIndHl => .alu .add .indHl 8
  | .addAA => .alu .add (.reg .a) 4
  | .adcAB => .alu .adc (.reg .b) 4
  | .adcAC => .alu .adc (.reg .c) 4
  | .adcAD => .alu .adc (.reg .d) 4
  | .adcAE => .alu .adc (.reg .e) 4
  | .adcAH => .alu .adc (.reg .h) 4
  | .adcAL => .alu .adc (.reg .l) 4
  | .adcAIndHl => .alu .adc .indHl 8
  | .adcAA => .alu .adc (.reg .a) 4
  | .subB => .alu .sub (.reg .b) 4
  | .subC => .alu .sub (.reg .c) 4
  | .subD => .alu .sub (.reg .d) 4
  | .subE => .alu .sub (.reg .e) 4
  | .subH => .alu .sub (.reg .h) 4
  | .subL => .alu .sub (.reg .l) 4
  | .subIndHl => .alu .sub .indHl 8
  | .subA => .alu .sub (.reg .a) 4
  | .sbcAB => .alu .sbc (.reg .b) 4
  | .sbcAC => .alu .sbc (.reg .c) 4
  | .sbcAD => .alu .sbc (.reg .d) 4
  | .sbcAE => .alu .sbc (.reg .e) 4
  | .sbcAH => .alu .sbc (.reg .h) 4
  | .sbcAL => .alu .sbc (.reg .l) 4
  | .sbcAIndHl => .alu .sbc .indHl 8
  | .sbcAA => .alu .sbc (.reg .a) 4
  | .andB => .alu .and (.reg .b) 4
  | .andC => .alu .and (.reg .c) 4
  | .andD => .alu .and (.reg .d) 4
  | .andE => .alu .and (.reg .e) 4
  | .andH => .alu .and (.reg .h) 4
  | .andL => .alu .and (.reg .l) 4
  | .andIndHl => .alu .and .indHl 8
  | .andA => .alu .and (.reg .a) 4
  | .xorB => .alu .xor (.reg .b) 4
  | .xorC => .alu .xor (.reg .c) 4
  | .xorD => .alu .xor (.reg .d) 4
  | .xorE => .alu .xor (.reg .e) 4
  | .xorH => .alu .xor (.reg .h) 4
  | .xorL => .alu .xor (.reg .l) 4
  | .xorIndHl => .alu .xor .indHl 8
  | .xorA => .alu .xor (.reg .a) 4
  | .orB => .alu .or (.reg .b) 4
  | .orC => .alu .or (.reg .c) 4
  | .orD => .alu .or (.reg .d) 4
  | .orE => .alu .or (.reg .e) 4
  | .orH => .alu .or (.reg .h) 4
  | .orL => .alu .or (.reg .l) 4
  | .orIndHl => .alu .or .indHl 8
  | .orA => .alu .or (.reg .a) 4
  | .cpB => .alu .cp (.reg .b) 4
  | .cpC => .alu .cp (.reg .c) 4
  | .cpD => .alu .cp (.reg .d) 4
  | .cpE => .alu .cp (.reg .e) 4
  | .cpH => .alu .cp (.reg .h) 4
  | .cpL => .alu .cp (.reg .l) 4
  | .cpIndHl => .alu .cp .indHl 8
  | .cpA => .alu .cp (.reg .a) 4
  | .retNz => .retCc .nz 20 8
  | .popBc => .pop .bc 12
  | .jpNzA16 a => .jpCc .nz a 16 12
  | .jpA16 a => .jp a 16
  | .callNzA16 a => .callCc .nz a 24 12
  | .pushBc => .push .bc 16
  | .addAD8 n => .alu .add (.imm n) 8
  | .rst00h => .rst 0x0000#16 16
  | .retZ => .retCc .z 20 8
  | .ret => .ret 16
  | .jpZA16 a => .jpCc .z a 16 12
  | .callZA16 a => .callCc .z a 24 12
  | .callA16 a => .call a 24
  | .adcAD8 n => .alu .adc (.imm n) 8
  | .rst08h => .rst 0x0008#16 16
  | .retNc => .retCc .nc 20 8
  | .popDe => .pop .de 12
  | .jpNcA16 a => .jpCc .nc a 16 12
  | .illegalD3 => .illegal 0xD3#8
  | .callNcA16 a => .callCc .nc a 24 12
  | .pushDe => .push .de 16
  | .subD8 n => .alu .sub (.imm n) 8
  | .rst10h => .rst 0x0010#16 16
  | .retC => .retCc .c 20 8
  | .reti => .reti 16
  | .jpCA16 a => .jpCc .c a 16 12
  | .illegalDB => .illegal 0xDB#8
  | .callCA16 a => .callCc .c a 24 12
  | .illegalDD => .illegal 0xDD#8
  | .sbcAD8 n => .alu .sbc (.imm n) 8
  | .rst18h => .rst 0x0018#16 16
  | .ldhIndA8A n => .storeA (.high n) 12
  | .popHl => .pop .hl 12
  | .ldhIndCA => .storeA .highC 8
  | .illegalE3 => .illegal 0xE3#8
  | .illegalE4 => .illegal 0xE4#8
  | .pushHl => .push .hl 16
  | .andD8 n => .alu .and (.imm n) 8
  | .rst20h => .rst 0x0020#16 16
  | .addSpE8 e => .addSp e 16
  | .jpHl => .jpHl 4
  | .ldIndA16A a => .storeA (.abs a) 16
  | .illegalEB => .illegal 0xEB#8
  | .illegalEC => .illegal 0xEC#8
  | .illegalED => .illegal 0xED#8
  | .xorD8 n => .alu .xor (.imm n) 8
  | .rst28h => .rst 0x0028#16 16
  | .ldhAIndA8 n => .loadA (.high n) 12
  | .popAf => .pop .af 12
  | .ldhAIndC => .loadA .highC 8
  | .di => .di 4
  | .illegalF4 => .illegal 0xF4#8
  | .pushAf => .push .af 16
  | .orD8 n => .alu .or (.imm n) 8
  | .rst30h => .rst 0x0030#16 16
  | .ldHlSpE8 e => .ldHlSp e 12
  | .ldSpHl => .ldSpHl 8
  | .ldAIndA16 a => .loadA (.abs a) 16
  | .ei => .ei 4
  | .illegalFC => .illegal 0xFC#8
  | .illegalFD => .illegal 0xFD#8
  | .cpD8 n => .alu .cp (.imm n) 8
  | .rst38h => .rst 0x0038#16 16
  | .rlcB => .rot .rlc (.reg .b) 8
  | .rlcC => .rot .rlc (.reg .c) 8
  | .rlcD => .rot .rlc (.reg .d) 8
  | .rlcE => .rot .rlc (.reg .e) 8
  | .rlcH => .rot .rlc (.reg .h) 8
  | .rlcL => .rot .rlc (.reg .l) 8
  | .rlcIndHl => .rot .rlc .indHl 16
  | .rlcA => .rot .rlc (.reg .a) 8
  | .rrcB => .rot .rrc (.reg .b) 8
  | .rrcC => .rot .rrc (.reg .c) 8
  | .rrcD => .rot .rrc (.reg .d) 8
  | .rrcE => .rot .rrc (.reg .e) 8
  | .rrcH => .rot .rrc (.reg .h) 8
  | .rrcL => .rot .rrc (.reg .l) 8
  | .rrcIndHl => .rot .rrc .indHl 16
  | .rrcA => .rot .rrc (.reg .a) 8
  | .rlB => .rot .rl (.reg .b) 8
  | .rlC => .rot .rl (.reg .c) 8
  | .rlD => .rot .rl (.reg .d) 8
  | .rlE => .rot .rl (.reg .e) 8
  | .rlH => .rot .rl (.reg .h) 8
  | .rlL => .rot .rl (.reg .l) 8
  | .rlIndHl => .rot .rl .indHl 16
  | .rlA => .rot .rl (.reg .a) 8
  | .rrB => .rot .rr (.reg .b) 8
  | .rrC => .rot .rr (.reg .c) 8
  | .rrD => .rot .rr (.reg .d) 8
  | .rrE => .rot .rr (.reg .e) 8
  | .rrH => .rot .rr (.reg .h) 8
  | .rrL => .rot .rr (.reg .l) 8
  | .rrIndHl => .rot .rr .indHl 16
  | .rrA => .rot .rr (.reg .a) 8
  | .slaB => .rot .sla (.reg .b) 8
  | .slaC => .rot .sla (.reg .c) 8
  | .slaD => .rot .sla (.reg .d) 8
  | .slaE => .rot .sla (.reg .e) 8
  | .slaH => .rot .sla (.reg .h) 8
  | .slaL => .rot .sla (.reg .l) 8
  | .slaIndHl => .rot .sla .indHl 16
  | .slaA => .rot .sla (.reg .a) 8
  | .sraB => .rot .sra (.reg .b) 8
  | .sraC => .rot .sra (.reg .c) 8
  | .sraD => .rot .sra (.reg .d) 8
  | .sraE => .rot .sra (.reg .e) 8
  | .sraH => .rot .sra (.reg .h) 8
  | .sraL => .rot .sra (.reg .l) 8
  | .sraIndHl => .rot .sra .indHl 16
  | .sraA => .rot .sra (.reg .a) 8
  | .swapB => .rot .swap (.reg .b) 8
  | .swapC => .rot .swap (.reg .c) 8
  | .swapD => .rot .swap (.reg .d) 8
  | .swapE => .rot .swap (.reg .e) 8
  | .swapH => .rot .swap (.reg .h) 8
  | .swapL => .rot .swap (.reg .l) 8
  | .swapIndHl => .rot .swap .indHl 16
  | .swapA => .rot .swap (.reg .a) 8
  | .srlB => .rot .srl (.reg .b) 8
  | .srlC => .rot .srl (.reg .c) 8
  | .srlD => .rot .srl (.reg .d) 8
  | .srlE => .rot .srl (.reg .e) 8
  | .srlH => .rot .srl (.reg .h) 8
  | .srlL => .rot .srl (.reg .l) 8
  | .srlIndHl => .rot .srl .indHl 16
  | .srlA => .rot .srl (.reg .a) 8
  | .bit0B => .bit 0 (.reg .b) 8
  | .bit0C => .bit 0 (.reg .c) 8
  | .bit0D => .bit 0 (.reg .d) 8
  | .bit0E => .bit 0 (.reg .e) 8
  | .bit0H => .bit 0 (.reg .h) 8
  | .bit0L => .bit 0 (.reg .l) 8
  | .bit0IndHl => .bit 0 .indHl 12
  | .bit0A => .bit 0 (.reg .a) 8
  | .bit1B => .bit 1 (.reg .b) 8
  | .bit1C => .bit 1 (.reg .c) 8
  | .bit1D => .bit 1 (.reg .d) 8
  | .bit1E => .bit 1 (.reg .e) 8
  | .bit1H => .bit 1 (.reg .h) 8
  | .bit1L => .bit 1 (.reg .l) 8
  | .bit1IndHl => .bit 1 .indHl 12
  | .bit1A => .bit 1 (.reg .a) 8
  | .bit2B => .bit 2 (.reg .b) 8
  | .bit2C => .bit 2 (.reg .c) 8
  | .bit2D => .bit 2 (.reg .d) 8
  | .bit2E => .bit 2 (.reg .e) 8
  | .bit2H => .bit 2 (.reg .h) 8
  | .bit2L => .bit 2 (.reg .l) 8
  | .bit2IndHl => .bit 2 .indHl 12
  | .bit2A => .bit 2 (.reg .a) 8
  | .bit3B => .bit 3 (.reg .b) 8
  | .bit3C => .bit 3 (.reg .c) 8
  | .bit3D => .bit 3 (.reg .d) 8
  | .bit3E => .bit 3 (.reg .e) 8
  | .bit3H => .bit 3 (.reg .h) 8
  | .bit3L => .bit 3 (.reg .l) 8
  | .bit3IndHl => .bit 3 .indHl 12
  | .bit3A => .bit 3 (.reg .a) 8
  | .bit4B => .bit 4 (.reg .b) 8
  | .bit4C => .bit 4 (.reg .c) 8
  | .bit4D => .bit 4 (.reg .d) 8
  | .bit4E => .bit 4 (.reg .e) 8
  | .bit4H => .bit 4 (.reg .h) 8
  | .bit4L => .bit 4 (.reg .l) 8
  | .bit4IndHl => .bit 4 .indHl 12
  | .bit4A => .bit 4 (.reg .a) 8
  | .bit5B => .bit 5 (.reg .b) 8
  | .bit5C => .bit 5 (.reg .c) 8
  | .bit5D => .bit 5 (.reg .d) 8
  | .bit5E => .bit 5 (.reg .e) 8
  | .bit5H => .bit 5 (.reg .h) 8
  | .bit5L => .bit 5 (.reg .l) 8
  | .bit5IndHl => .bit 5 .indHl 12
  | .bit5A => .bit 5 (.reg .a) 8
  | .bit6B => .bit 6 (.reg .b) 8
  | .bit6C => .bit 6 (.reg .c) 8
  | .bit6D => .bit 6 (.reg .d) 8
  | .bit6E => .bit 6 (.reg .e) 8
  | .bit6H => .bit 6 (.reg .h) 8
  | .bit6L => .bit 6 (.reg .l) 8
  | .bit6IndHl => .bit 6 .indHl 12
  | .bit6A => .bit 6 (.reg .a) 8
  | .bit7B => .bit 7 (.reg .b) 8
  | .bit7C => .bit 7 (.reg .c) 8
  | .bit7D => .bit 7 (.reg .d) 8
  | .bit7E => .bit 7 (.reg .e) 8
  | .bit7H => .bit 7 (.reg .h) 8
  | .bit7L => .bit 7 (.reg .l) 8
  | .bit7IndHl => .bit 7 .indHl 12
  | .bit7A => .bit 7 (.reg .a) 8
  | .res0B => .res 0 (.reg .b) 8
  | .res0C => .res 0 (.reg .c) 8
  | .res0D => .res 0 (.reg .d) 8
  | .res0E => .res 0 (.reg .e) 8
  | .res0H => .res 0 (.reg .h) 8
  | .res0L => .res 0 (.reg .l) 8
  | .res0IndHl => .res 0 .indHl 16
  | .res0A => .res 0 (.reg .a) 8
  | .res1B => .res 1 (.reg .b) 8
  | .res1C => .res 1 (.reg .c) 8
  | .res1D => .res 1 (.reg .d) 8
  | .res1E => .res 1 (.reg .e) 8
  | .res1H => .res 1 (.reg .h) 8
  | .res1L => .res 1 (.reg .l) 8
  | .res1IndHl => .res 1 .indHl 16
  | .res1A => .res 1 (.reg .a) 8
  | .res2B => .res 2 (.reg .b) 8
  | .res2C => .res 2 (.reg .c) 8
  | .res2D => .res 2 (.reg .d) 8
  | .res2E => .res 2 (.reg .e) 8
  | .res2H => .res 2 (.reg .h) 8
  | .res2L => .res 2 (.reg .l) 8
  | .res2IndHl => .res 2 .indHl 16
  | .res2A => .res 2 (.reg .a) 8
  | .res3B => .res 3 (.reg .b) 8
  | .res3C => .res 3 (.reg .c) 8
  | .res3D => .res 3 (.reg .d) 8
  | .res3E => .res 3 (.reg .e) 8
  | .res3H => .res 3 (.reg .h) 8
  | .res3L => .res 3 (.reg .l) 8
  | .res3IndHl => .res 3 .indHl 16
  | .res3A => .res 3 (.reg .a) 8
  | .res4B => .res 4 (.reg .b) 8
  | .res4C => .res 4 (.reg .c) 8
  | .res4D => .res 4 (.reg .d) 8
  | .res4E => .res 4 (.reg .e) 8
  | .res4H => .res 4 (.reg .h) 8
  | .res4L => .res 4 (.reg .l) 8
  | .res4IndHl => .res 4 .indHl 16
  | .res4A => .res 4 (.reg .a) 8
  | .res5B => .res 5 (.reg .b) 8
  | .res5C => .res 5 (.reg .c) 8
  | .res5D => .res 5 (.reg .d) 8
  | .res5E => .res 5 (.reg .e) 8
  | .res5H => .res 5 (.reg .h) 8
  | .res5L => .res 5 (.reg .l) 8
  | .res5IndHl => .res 5 .indHl 16
  | .res5A => .res 5 (.reg .a) 8
  | .res6B => .res 6 (.reg .b) 8
  | .res6C => .res 6 (.reg .c) 8
  | .res6D => .res 6 (.reg .d) 8
  | .res6E => .res 6 (.reg .e) 8
  | .res6H => .res 6 (.reg .h) 8
  | .res6L => .res 6 (.reg .l) 8
  | .res6IndHl => .res 6 .indHl 16
  | .res6A => .res 6 (.reg .a) 8
  | .res7B => .res 7 (.reg .b) 8
  | .res7C => .res 7 (.reg .c) 8
  | .res7D => .res 7 (.reg .d) 8
  | .res7E => .res 7 (.reg .e) 8
  | .res7H => .res 7 (.reg .h) 8
  | .res7L => .res 7 (.reg .l) 8
  | .res7IndHl => .res 7 .indHl 16
  | .res7A => .res 7 (.reg .a) 8
  | .set0B => .set 0 (.reg .b) 8
  | .set0C => .set 0 (.reg .c) 8
  | .set0D => .set 0 (.reg .d) 8
  | .set0E => .set 0 (.reg .e) 8
  | .set0H => .set 0 (.reg .h) 8
  | .set0L => .set 0 (.reg .l) 8
  | .set0IndHl => .set 0 .indHl 16
  | .set0A => .set 0 (.reg .a) 8
  | .set1B => .set 1 (.reg .b) 8
  | .set1C => .set 1 (.reg .c) 8
  | .set1D => .set 1 (.reg .d) 8
  | .set1E => .set 1 (.reg .e) 8
  | .set1H => .set 1 (.reg .h) 8
  | .set1L => .set 1 (.reg .l) 8
  | .set1IndHl => .set 1 .indHl 16
  | .set1A => .set 1 (.reg .a) 8
  | .set2B => .set 2 (.reg .b) 8
  | .set2C => .set 2 (.reg .c) 8
  | .set2D => .set 2 (.reg .d) 8
  | .set2E => .set 2 (.reg .e) 8
  | .set2H => .set 2 (.reg .h) 8
  | .set2L => .set 2 (.reg .l) 8
  | .set2IndHl => .set 2 .indHl 16
  | .set2A => .set 2 (.reg .a) 8
  | .set3B => .set 3 (.reg .b) 8
  | .set3C => .set 3 (.reg .c) 8
  | .set3D => .set 3 (.reg .d) 8
  | .set3E => .set 3 (.reg .e) 8
  | .set3H => .set 3 (.reg .h) 8
  | .set3L => .set 3 (.reg .l) 8
  | .set3IndHl => .set 3 .indHl 16
  | .set3A => .set 3 (.reg .a) 8
  | .set4B => .set 4 (.reg .b) 8
  | .set4C => .set 4 (.reg .c) 8
  | .set4D => .set 4 (.reg .d) 8
  | .set4E => .set 4 (.reg .e) 8
  | .set4H => .set 4 (.reg .h) 8
  | .set4L => .set 4 (.reg .l) 8
  | .set4IndHl => .set 4 .indHl 16
  | .set4A => .set 4 (.reg .a) 8
  | .set5B => .set 5 (.reg .b) 8
  | .set5C => .set 5 (.reg .c) 8
  | .set5D => .set 5 (.reg .d) 8
  | .set5E => .set 5 (.reg .e) 8
  | .set5H => .set 5 (.reg .h) 8
  | .set5L => .set 5 (.reg .l) 8
  | .set5IndHl => .set 5 .indHl 16
  | .set5A => .set 5 (.reg .a) 8
  | .set6B => .set 6 (.reg .b) 8
  | .set6C => .set 6 (.reg .c) 8
  | .set6D => .set 6 (.reg .d) 8
  | .set6E => .set 6 (.reg .e) 8
  | .set6H => .set 6 (.reg .h) 8
  | .set6L => .set 6 (.reg .l) 8
  | .set6IndHl => .set 6 .indHl 16
  | .set6A => .set 6 (.reg .a) 8
  | .set7B => .set 7 (.reg .b) 8
  | .set7C => .set 7 (.reg .c) 8
  | .set7D => .set 7 (.reg .d) 8
  | .set7E => .set 7 (.reg .e) 8
  | .set7H => .set 7 (.reg .h) 8
  | .set7L => .set 7 (.reg .l) 8
  | .set7IndHl => .set 7 .indHl 16
  | .set7A => .set 7 (.reg .a) 8
  | .prefixCb op2 => cbShape op2

theorem prefixCbOp_shape (op2 : Byte) : prefixCbOp op2 = (cbShape op2).op := by
  unfold prefixCbOp cbShape
  cases field2 op2 6 <;> rfl

/-- Every meaning is the operation of its shape. -/
theorem exec_shape (i : Instr) (s : State) : exec i s = runOp (shapeOf i).op s := by
  cases i
  case prefixCb op2 => exact congrArg (fun op => runOp op s) (prefixCbOp_shape op2)
  all_goals rfl

/-- A meaning whose operation completes answers the next state, the counter moved. -/
theorem exec_next_of_ok {i : Instr} {x : Shape} (hx : shapeOf i = x) {s t : State} {n : Nat} (h : x.op s = .ok n t) :
    exec i s = .next (t.tick n) := by
  rw [exec_shape, hx, runOp_next_iff]
  exact ⟨n, t, h, rfl⟩

/-- A meaning that answers a next state is an operation that completed. -/
theorem exec_ok_of_next {i : Instr} {s t : State} (h : exec i s = .next t) :
    ∃ n u, (shapeOf i).op s = .ok n u ∧ t = u.tick n := by
  rw [exec_shape] at h
  exact (runOp_next_iff _ s t).mp h

/-! ### The shapes of the regular groups -/

theorem shapeOf_ld_reg (r : Reg8) (src : Opnd8) :
    shapeOf (.ld (.reg r) src) = .ld (.reg r) src (cbCycles src 4 8) := by
  cases src with
  | reg q => cases r <;> cases q <;> rfl
  | indHl => cases r <;> rfl

theorem shapeOf_ld_indHl (r : Reg8) : shapeOf (.ld .indHl (.reg r)) = .ld .indHl (.reg r) 8 := by
  cases r <;> rfl

theorem shapeOf_ldImm (d : Opnd8) (v : Byte) : shapeOf (.ldImm d v) = .ldImm d v (cbCycles d 8 12) := by
  cases d with
  | reg r => cases r <;> rfl
  | indHl => rfl

theorem shapeOf_ldAFrom (m : MemOpnd) : shapeOf (.ldAFrom m) = .loadA m (memOpndCycles m) := by
  cases m <;> rfl

theorem shapeOf_ldATo (m : MemOpnd) : shapeOf (.ldATo m) = .storeA m (memOpndCycles m) := by
  cases m <;> rfl

theorem shapeOf_ldRp (p : Rp) (v : Word) : shapeOf (.ldRp p v) = .ldRp p v 12 := by cases p <;> rfl
theorem shapeOf_incRp (p : Rp) : shapeOf (.incRp p) = .incRp p 8 := by cases p <;> rfl
theorem shapeOf_decRp (p : Rp) : shapeOf (.decRp p) = .decRp p 8 := by cases p <;> rfl
theorem shapeOf_addHl (p : Rp) : shapeOf (.addHl p) = .addHl p 8 := by cases p <;> rfl
theorem shapeOf_push (p : Rp2) : shapeOf (.push p) = .push p 16 := by cases p <;> rfl
theorem shapeOf_pop (p : Rp2) : shapeOf (.pop p) = .pop p 12 := by cases p <;> rfl

theorem shapeOf_inc (o : Opnd8) : shapeOf (.inc o) = .inc o (cbCycles o 4 12) := by
  cases o with
  | reg r => cases r <;> rfl
  | indHl => rfl

theorem shapeOf_dec (o : Opnd8) : shapeOf (.dec o) = .dec o (cbCycles o 4 12) := by
  cases o with
  | reg r => cases r <;> rfl
  | indHl => rfl

theorem shapeOf_alu (op : AluOp) (src : Src8) : shapeOf (.alu op src) = .alu op src (srcCycles src) := by
  cases src with
  | reg r => cases op <;> cases r <;> rfl
  | indHl => cases op <;> rfl
  | imm n => cases op <;> rfl

theorem shapeOf_jpCc (k : Cond) (a : Word) : shapeOf (.jpCc k a) = .jpCc k a 16 12 := by cases k <;> rfl
theorem shapeOf_jrCc (k : Cond) (e : Byte) : shapeOf (.jrCc k e) = .jrCc k e 12 8 := by cases k <;> rfl
theorem shapeOf_callCc (k : Cond) (a : Word) : shapeOf (.callCc k a) = .callCc k a 24 12 := by cases k <;> rfl
theorem shapeOf_retCc (k : Cond) : shapeOf (.retCc k) = .retCc k 20 8 := by cases k <;> rfl

theorem shapeOf_rst (y : Field3) : shapeOf (.rst y) = .rst (BitVec.ofNat 16 (8 * bitNumber y)) 16 := by
  cases y <;> rfl

theorem shapeOf_rot (op : RotOp) (o : Opnd8) : shapeOf (.rot op o) = .rot op o (cbCycles o 8 16) := by
  cases o with
  | reg r => cases op <;> cases r <;> rfl
  | indHl => cases op <;> rfl

theorem shapeOf_bit (y : Field3) (o : Opnd8) : shapeOf (.bit y o) = .bit (bitNumber y) o (cbCycles o 8 12) := by
  cases o with
  | reg r => cases y <;> cases r <;> rfl
  | indHl => cases y <;> rfl

theorem shapeOf_res (y : Field3) (o : Opnd8) : shapeOf (.res y o) = .res (bitNumber y) o (cbCycles o 8 16) := by
  cases o with
  | reg r => cases y <;> cases r <;> rfl
  | indHl => cases y <;> rfl

theorem shapeOf_set (y : Field3) (o : Opnd8) : shapeOf (.set y o) = .set (bitNumber y) o (cbCycles o 8 16) := by
  cases o with
  | reg r => cases y <;> cases r <;> rfl
  | indHl => cases y <;> rfl

/-- The CB byte and its second byte mean what the row of the CB table means (30_encoding.md R96). -/
theorem shapeOf_decodeCb (op2 : Byte) : shapeOf (decodeCb op2) = cbShape op2 := by
  unfold decodeCb cbShape
  cases field2 op2 6
  · exact shapeOf_rot _ _
  · exact shapeOf_bit _ _
  · exact shapeOf_res _ _
  · exact shapeOf_set _ _

end Sys2Proof.Machine
end

