-- ==== Sys2Proof/Laws/Effect.lean ====
section
/-! SUPPORT. The effect of every meaning, said once: `Shape.ready` (what it needs to read and store), `Shape.count` (the cycles
it returns), `Shape.after` (the state it leaves), and `shape_ok_iff`. Then, for every shape, what it leaves unchanged. -/

namespace Sys2Proof.Machine

/-- What a shape must find readable and writable in order to complete. -/
def Shape.ready (s : State) : Shape → Prop
  | .ld dst src _ => (s.afterOpnd src).opndStorable dst (s.opnd src) = true ∧ s.opndReady src = true
  | .ldImm dst v _ => s.opndStorable dst v = true
  | .loadA m _ => s.memOpndReady m = true ∧ s.canRead (memAddress m s) = true
  | .storeA m _ => s.memOpndReady m = true ∧ s.unset.reg .a = false ∧ s.canWrite (memAddress m s) s.a = true
  | .storeSp a _ => s.unset.sp = false ∧ s.canWrite a (loByte s.sp) = true ∧
      (s.storeByte a (loByte s.sp)).canWrite (inc16 a) (hiByte s.sp) = true
  | .ldSpHl _ => s.unset.pair .hl = false
  | .push p _ => s.unset.pair p.reg16 = false ∧ s.canPush (s.pair p.reg16) = true
  | .pop _ _ => s.canPop = true
  | .ldHlSp _ _ => s.unset.sp = false
  | .alu op src _ =>
    (aluUsesCarry op = true → s.unset.f = false) ∧ s.srcReady src = true ∧ s.unset.reg .a = false
  | .inc o _ =>
    s.opndReady o = true ∧ (s.afterOpnd o).opndStorable o (inc8 (s.opnd o)) = true ∧ s.unset.f = false
  | .dec o _ =>
    s.opndReady o = true ∧ (s.afterOpnd o).opndStorable o (dec8 (s.opnd o)) = true ∧ s.unset.f = false
  | .daa _ => s.unset.reg .a = false ∧ s.unset.f = false
  | .cpl _ => s.unset.reg .a = false ∧ s.unset.f = false
  | .scf _ => s.unset.f = false
  | .ccf _ => s.unset.f = false
  | .incRp p _ => s.unset.pair p.reg16 = false
  | .decRp p _ => s.unset.pair p.reg16 = false
  | .addHl p _ => s.unset.pair p.reg16 = false ∧ s.unset.pair .hl = false ∧ s.unset.f = false
  | .addSp _ _ => s.unset.sp = false
  | .rotA op _ => (rotUsesCarry op = true → s.unset.f = false) ∧ s.unset.reg .a = false
  | .rot op o _ => (rotUsesCarry op = true → s.unset.f = false) ∧ s.opndReady o = true ∧
      (s.afterOpnd o).opndStorable o (rotate8 op (s.opnd o) (rotUsesCarry op && flagC s.flags)).1 = true
  | .bit _ o _ => s.opndReady o = true ∧ s.unset.f = false
  | .res b o _ => s.opndReady o = true ∧ (s.afterOpnd o).opndStorable o (clearBit8 b (s.opnd o)) = true
  | .set b o _ => s.opndReady o = true ∧ (s.afterOpnd o).opndStorable o (setBit8 b (s.opnd o)) = true
  | .jpCc _ _ _ _ => s.unset.f = false
  | .jpHl _ => s.unset.pair .hl = false
  | .jrCc _ _ _ _ => s.unset.f = false
  | .call _ _ => s.canPush s.pc = true
  | .callCc k _ _ _ => s.unset.f = false ∧ (condHolds k s.flags = true → s.canPush s.pc = true)
  | .ret _ => s.canPop = true
  | .retCc k _ _ => s.unset.f = false ∧ (condHolds k s.flags = true → s.canPop = true)
  | .reti _ => s.canPop = true
  | .rst _ _ => s.canPush s.pc = true
  | .halt _ =>
    s.ime = false → s.unset.ie = false ∧ s.unset.ifr = false ∧
      (pendingOf s.ie s.ifr = 0#5 ∨ s.haltBugPolicy = .reproduce)
  | .stop _ => s.stopPolicy = .waitJoypad
  | .illegal _ => False
  | .ldRp _ _ _ | .jp _ _ | .jr _ _ | .nop _ | .di _ | .ei _ => True

/-- The cycles a shape returns. -/
def Shape.count (s : State) : Shape → Nat
  | .ld _ _ n | .ldImm _ _ n | .loadA _ n | .storeA _ n | .ldRp _ _ n | .storeSp _ n | .ldSpHl n | .push _ n | .pop _ n
  | .ldHlSp _ n | .alu _ _ n | .inc _ n | .dec _ n | .daa n | .cpl n | .scf n | .ccf n | .incRp _ n | .decRp _ n
  | .addHl _ n | .addSp _ n | .rotA _ n | .rot _ _ n | .bit _ _ n | .res _ _ n | .set _ _ n | .jp _ n | .jpHl n | .jr _ n
  | .call _ n | .ret n | .reti n | .rst _ n | .nop n | .halt n | .stop n | .di n | .ei n => n
  | .jpCc k _ x y | .jrCc k _ x y | .callCc k _ x y | .retCc k x y => if condHolds k s.flags then x else y
  | .illegal _ => 0

/-- The state a shape leaves. -/
def Shape.after (s : State) : Shape → State
  | .ld dst src _ => (s.afterOpnd src).setOpnd dst (s.opnd src)
  | .ldImm dst v _ => s.setOpnd dst v
  | .loadA m _ =>
    ((s.afterRead (memAddress m s)).setReg .a (s.byteAt (memAddress m s))).afterAccess m (memAddress m s)
  | .storeA m _ => (s.storeByte (memAddress m s) s.a).afterAccess m (memAddress m s)
  | .ldRp p v _ => s.setPair p.reg16 v
  | .storeSp a _ => (s.storeByte a (loByte s.sp)).storeByte (inc16 a) (hiByte s.sp)
  | .ldSpHl _ => s.setSp (s.pair .hl)
  | .push p _ => s.pushed (s.pair p.reg16)
  | .pop p _ => s.popped.setPair p.reg16 s.top
  | .ldHlSp e _ =>
    (s.setPair .hl (addSpDisp s.sp e).1).setF (packFlags false false (addSpDisp s.sp e).2.1 (addSpDisp s.sp e).2.2)
  | .alu op src _ => (s.afterSrc src).afterAlu op (alu8 op s.a (s.src src) (aluUsesCarry op && flagC s.flags))
  | .inc o _ => ((s.afterOpnd o).setOpnd o (inc8 (s.opnd o))).setF
      (packFlags (decide (inc8 (s.opnd o) = 0#8)) false (incHalf (s.opnd o)) (flagC s.flags))
  | .dec o _ => ((s.afterOpnd o).setOpnd o (dec8 (s.opnd o))).setF
      (packFlags (decide (dec8 (s.opnd o) = 0#8)) true (decHalf (s.opnd o)) (flagC s.flags))
  | .daa _ => (s.setReg .a (daa8 s.a (flagN s.flags) (flagH s.flags) (flagC s.flags)).1).setF
      (packFlags (decide ((daa8 s.a (flagN s.flags) (flagH s.flags) (flagC s.flags)).1 = 0#8)) (flagN s.flags) false
        (daa8 s.a (flagN s.flags) (flagH s.flags) (flagC s.flags)).2)
  | .cpl _ => (s.setReg .a (~~~s.a)).setF (packFlags (flagZ s.flags) true true (flagC s.flags))
  | .scf _ => s.setF (packFlags (flagZ s.flags) false false true)
  | .ccf _ => s.setF (packFlags (flagZ s.flags) false false (!flagC s.flags))
  | .incRp p _ => s.setPair p.reg16 (inc16 (s.pair p.reg16))
  | .decRp p _ => s.setPair p.reg16 (dec16 (s.pair p.reg16))
  | .addHl p _ => (s.setF (packFlags (flagZ s.flags) false (addHl16 (s.pair .hl) (s.pair p.reg16)).2.1
      (addHl16 (s.pair .hl) (s.pair p.reg16)).2.2)).setPair .hl (addHl16 (s.pair .hl) (s.pair p.reg16)).1
  | .addSp e _ =>
    (s.setF (packFlags false false (addSpDisp s.sp e).2.1 (addSpDisp s.sp e).2.2)).setSp (addSpDisp s.sp e).1
  | .rotA op _ => (s.setReg .a (rotate8 op s.a (rotUsesCarry op && flagC s.flags)).1).setF
      (packFlags false false false (rotate8 op s.a (rotUsesCarry op && flagC s.flags)).2)
  | .rot op o _ => ((s.afterOpnd o).setOpnd o (rotate8 op (s.opnd o) (rotUsesCarry op && flagC s.flags)).1).setF
      (packFlags (decide ((rotate8 op (s.opnd o) (rotUsesCarry op && flagC s.flags)).1 = 0#8)) false false
        (rotate8 op (s.opnd o) (rotUsesCarry op && flagC s.flags)).2)
  | .bit b o _ => (s.afterOpnd o).setF (packFlags (!(s.opnd o).getLsbD b) false true (flagC s.flags))
  | .res b o _ => (s.afterOpnd o).setOpnd o (clearBit8 b (s.opnd o))
  | .set b o _ => (s.afterOpnd o).setOpnd o (setBit8 b (s.opnd o))
  | .jp a _ => s.setPc a
  | .jpCc k a _ _ => if condHolds k s.flags then s.setPc a else s
  | .jpHl _ => s.setPc (s.pair .hl)
  | .jr e _ => s.setPc (relTarget s e)
  | .jrCc k e _ _ => if condHolds k s.flags then s.setPc (relTarget s e) else s
  | .call a _ => (s.pushed s.pc).setPc a
  | .callCc k a _ _ => if condHolds k s.flags then (s.pushed s.pc).setPc a else s
  | .ret _ => s.popped.setPc s.top
  | .retCc k _ _ => if condHolds k s.flags then s.popped.setPc s.top else s
  | .reti _ => { s.popped.setPc s.top with ime := true, eiPending := false }
  | .rst a _ => (s.pushed s.pc).setPc a
  | .nop _ => s
  | .halt _ =>
    if s.ime = true ∨ pendingOf s.ie s.ifr = 0#5 then { s with halted := true } else { s with haltBug := true }
  | .stop _ => { s with stopped := true }
  | .di _ => { s with ime := false, eiPending := false }
  | .ei _ => { s with eiPending := true }
  | .illegal _ => s

/-- A shape's operation completes exactly where it is ready, with its count and in its state. -/
theorem shape_ok_iff (x : Shape) (s t : State) (m : Nat) :
    x.op s = .ok m t ↔ x.ready s ∧ m = x.count s ∧ t = x.after s := by
  cases x
  case ld => rw [Shape.op, ldOp_ok_iff]; simp [Shape.ready, Shape.count, Shape.after, and_assoc]
  case ldImm => rw [Shape.op, ldImmOp_ok_iff]; simp [Shape.ready, Shape.count, Shape.after]
  case loadA => rw [Shape.op, loadAOp_ok_iff]; simp [Shape.ready, Shape.count, Shape.after, and_assoc]
  case storeA => rw [Shape.op, storeAOp_ok_iff]; simp [Shape.ready, Shape.count, Shape.after, and_assoc]
  case ldRp => rw [Shape.op, ldRpOp_ok_iff]; simp [Shape.ready, Shape.count, Shape.after]
  case storeSp => rw [Shape.op, storeSpOp_ok_iff]; simp [Shape.ready, Shape.count, Shape.after, and_assoc]
  case ldSpHl => rw [Shape.op, ldSpHlOp_ok_iff]; simp [Shape.ready, Shape.count, Shape.after]
  case push => rw [Shape.op, pushOp_ok_iff]; simp [Shape.ready, Shape.count, Shape.after, and_assoc]
  case pop => rw [Shape.op, popOp_ok_iff]; simp [Shape.ready, Shape.count, Shape.after]
  case ldHlSp => rw [Shape.op, ldHlSpOp_ok_iff]; simp [Shape.ready, Shape.count, Shape.after]
  case alu => rw [Shape.op, aluOp_ok_iff]; simp [Shape.ready, Shape.count, Shape.after, and_assoc]
  case inc => rw [Shape.op, incOp_ok_iff]; simp [Shape.ready, Shape.count, Shape.after, and_assoc]
  case dec => rw [Shape.op, decOp_ok_iff]; simp [Shape.ready, Shape.count, Shape.after, and_assoc]
  case daa => rw [Shape.op, daaOp_ok_iff]; simp [Shape.ready, Shape.count, Shape.after, and_assoc]
  case cpl => rw [Shape.op, cplOp_ok_iff]; simp [Shape.ready, Shape.count, Shape.after, and_assoc]
  case scf => rw [Shape.op, scfOp_ok_iff]; simp [Shape.ready, Shape.count, Shape.after]
  case ccf => rw [Shape.op, ccfOp_ok_iff]; simp [Shape.ready, Shape.count, Shape.after]
  case incRp => rw [Shape.op, incRpOp_ok_iff]; simp [Shape.ready, Shape.count, Shape.after]
  case decRp => rw [Shape.op, decRpOp_ok_iff]; simp [Shape.ready, Shape.count, Shape.after]
  case addHl => rw [Shape.op, addHlOp_ok_iff]; simp [Shape.ready, Shape.count, Shape.after, and_assoc]
  case addSp => rw [Shape.op, addSpOp_ok_iff]; simp [Shape.ready, Shape.count, Shape.after]
  case rotA => rw [Shape.op, rotAOp_ok_iff]; simp [Shape.ready, Shape.count, Shape.after, and_assoc]
  case rot => rw [Shape.op, rotOp_ok_iff]; simp [Shape.ready, Shape.count, Shape.after, and_assoc]
  case bit => rw [Shape.op, bitOp_ok_iff]; simp [Shape.ready, Shape.count, Shape.after, and_assoc]
  case res => rw [Shape.op, resOp_ok_iff]; simp [Shape.ready, Shape.count, Shape.after, and_assoc]
  case set => rw [Shape.op, setOp_ok_iff]; simp [Shape.ready, Shape.count, Shape.after, and_assoc]
  case jp => rw [Shape.op, jpOp_ok_iff]; simp [Shape.ready, Shape.count, Shape.after]
  case jpCc k _ _ _ =>
    rw [Shape.op, jpCcOp_ok_iff]
    cases hk : condHolds k s.flags <;> simp [Shape.ready, Shape.count, Shape.after, hk]
  case jpHl => rw [Shape.op, jpHlOp_ok_iff]; simp [Shape.ready, Shape.count, Shape.after]
  case jr => rw [Shape.op, jrOp_ok_iff]; simp [Shape.ready, Shape.count, Shape.after]
  case jrCc k _ _ _ =>
    rw [Shape.op, jrCcOp_ok_iff]
    cases hk : condHolds k s.flags <;> simp [Shape.ready, Shape.count, Shape.after, hk]
  case call => rw [Shape.op, callOp_ok_iff]; simp [Shape.ready, Shape.count, Shape.after]
  case callCc k _ _ _ =>
    rw [Shape.op, callCcOp_ok_iff]
    cases hk : condHolds k s.flags <;> simp [Shape.ready, Shape.count, Shape.after, hk, and_assoc]
  case ret => rw [Shape.op, retOp_ok_iff]; simp [Shape.ready, Shape.count, Shape.after]
  case retCc k _ _ =>
    rw [Shape.op, retCcOp_ok_iff]
    cases hk : condHolds k s.flags <;> simp [Shape.ready, Shape.count, Shape.after, hk, and_assoc]
  case reti => rw [Shape.op, retiOp_ok_iff]; simp [Shape.ready, Shape.count, Shape.after]
  case rst => rw [Shape.op, rstOp_ok_iff]; simp [Shape.ready, Shape.count, Shape.after]
  case nop => rw [Shape.op, nopOp_ok_iff]; simp [Shape.ready, Shape.count, Shape.after]
  case halt =>
    rw [Shape.op, haltOp_ok_iff]
    cases hi : s.ime
    · by_cases hp : pendingOf s.ie s.ifr = 0#5
      · simp [Shape.ready, Shape.count, Shape.after, hi, hp, and_assoc, and_left_comm]
      · simp only [Shape.ready, Shape.count, Shape.after, hi, hp, Bool.false_eq_true, false_and, false_or, true_and,
          ne_eq, not_false_eq_true, if_false, forall_const]
        constructor
        · rintro ⟨h1, h2, h3, h4, h5⟩; exact ⟨⟨h2, h3, h4⟩, h1, h5⟩
        · rintro ⟨⟨h2, h3, h4⟩, h1, h5⟩; exact ⟨h1, h2, h3, h4, h5⟩
    · simp [Shape.ready, Shape.count, Shape.after, hi]
  case stop => rw [Shape.op, stopOp_ok_iff]; simp [Shape.ready, Shape.count, Shape.after]
  case di => rw [Shape.op, diOp_ok_iff]; simp [Shape.ready, Shape.count, Shape.after]
  case ei => rw [Shape.op, eiOp_ok_iff]; simp [Shape.ready, Shape.count, Shape.after]
  case illegal => rw [Shape.op, illegalOpcode_ok]; simp [Shape.ready]

/-- A meaning answers a next state exactly where its shape is ready: the state of its effect, the counter moved. -/
theorem exec_next_iff (i : Instr) (s t : State) :
    exec i s = .next t ↔ (shapeOf i).ready s ∧ t = ((shapeOf i).after s).tick ((shapeOf i).count s) := by
  rw [exec_shape, runOp_next_iff]
  constructor
  · rintro ⟨n, u, hu, rfl⟩
    obtain ⟨hr, rfl, rfl⟩ := (shape_ok_iff _ _ _ _).mp hu
    exact ⟨hr, rfl⟩
  · rintro ⟨hr, rfl⟩
    exact ⟨_, _, (shape_ok_iff _ _ _ _).mpr ⟨hr, rfl, rfl⟩, rfl⟩

/-! ### What an effect leaves unchanged -/

/-- The general register an operand names. -/
def opndDest : Opnd8 → List Reg8
  | .reg r => [r]
  | .indHl => []

/-- The general registers a pair is made of. -/
def pairDest : Reg16 → List Reg8
  | .bc => [.b, .c]
  | .de => [.d, .e]
  | .hl => [.h, .l]
  | .sp => []
  | .af => [.a]

/-- The general registers a shape may write. -/
def Shape.dest : Shape → List Reg8
  | .ld o _ _ | .ldImm o _ _ | .inc o _ | .dec o _ | .rot _ o _ | .res _ o _ | .set _ o _ => opndDest o
  | .loadA .indHlInc _ | .loadA .indHlDec _ => [.a, .h, .l]
  | .loadA _ _ => [.a]
  | .storeA .indHlInc _ | .storeA .indHlDec _ => [.h, .l]
  | .ldRp p _ _ | .incRp p _ | .decRp p _ => pairDest p.reg16
  | .pop p _ => pairDest p.reg16
  | .ldHlSp _ _ | .addHl _ _ => [.h, .l]
  | .alu .cp _ _ => []
  | .alu _ _ _ | .daa _ | .cpl _ | .rotA _ _ => [.a]
  | _ => []

theorem destRegs_shape (i : Instr) : destRegs i = (shapeOf i).dest := by
  cases i
  case prefixCb op2 =>
    show cbDest (field2 op2 6) (opnd8 (field3 op2 0)) = (cbShape op2).dest
    unfold cbShape
    cases field2 op2 6 <;> cases opnd8 (field3 op2 0) <;> rfl
  all_goals rfl

/-- The cells and the byte a read of an operand needs. -/
def opndAccesses (s : State) : Opnd8 → List Access
  | .reg r => [.cell (regCell r)]
  | .indHl => readHl s

/-- What a read and a write of an operand need. -/
def changeAccesses (s : State) (v : Byte) : Opnd8 → List Access
  | .reg r => [.cell (regCell r)]
  | .indHl => changeHl s v

/-- What a read of the second operand of the ALU group needs. -/
def srcAccesses (s : State) : Src8 → List Access
  | .reg r => [.cell (regCell r)]
  | .indHl => readHl s
  | .imm _ => []

/-- The cell a memory operand takes its address from. -/
def addrCell : MemOpnd → List Access
  | .indBc => [.cell .bc]
  | .indDe => [.cell .de]
  | .indHlInc => [.cell .hl]
  | .indHlDec => [.cell .hl]
  | .abs _ => []
  | .high _ => []
  | .highC => [.cell .c]

/-- F where the carry comes in. -/
def carryCell (uses : Bool) : List Access := if uses then [.cell .f] else []

/-- The accesses of a shape. -/
def Shape.accesses (s : State) : Shape → List Access
  | .ld (.reg _) src _ => opndAccesses s src
  | .ld .indHl (.reg r) _ => [.cell .hl, .cell (regCell r), .write (s.pair .hl) (s.reg r)]
  | .ld .indHl .indHl _ => .cell .hl :: changeHl s (s.opnd .indHl)
  | .ldImm (.reg _) _ _ => []
  | .ldImm .indHl v _ => [.cell .hl, .write (s.pair .hl) v]
  | .loadA m _ => addrCell m ++ [.read (memAddress m s)]
  | .storeA m _ => addrCell m ++ [.cell .a, .write (memAddress m s) s.a]
  | .storeSp a _ => [.cell .sp, .write a (loByte s.sp), .write (inc16 a) (hiByte s.sp)]
  | .ldSpHl _ | .jpHl _ => [.cell .hl]
  | .push p _ => .cell (pairCell p.reg16) :: pushAccesses s (s.pair p.reg16)
  | .pop _ _ | .ret _ | .reti _ => popAccesses s
  | .ldHlSp _ _ | .addSp _ _ => [.cell .sp]
  | .alu op src _ => carryCell (aluUsesCarry op) ++ (srcAccesses s src ++ [.cell .a])
  | .inc o _ => changeAccesses s (inc8 (s.opnd o)) o ++ [.cell .f]
  | .dec o _ => changeAccesses s (dec8 (s.opnd o)) o ++ [.cell .f]
  | .daa _ | .cpl _ => [.cell .a, .cell .f]
  | .scf _ | .ccf _ | .jpCc _ _ _ _ | .jrCc _ _ _ _ => [.cell .f]
  | .incRp p _ | .decRp p _ => [.cell (pairCell p.reg16)]
  | .addHl p _ => [.cell (pairCell p.reg16), .cell .hl, .cell .f]
  | .rotA op _ => carryCell (rotUsesCarry op) ++ [.cell .a]
  | .rot op o _ => carryCell (rotUsesCarry op) ++
      changeAccesses s (rotate8 op (s.opnd o) (rotUsesCarry op && flagC s.flags)).1 o
  | .bit _ o _ => opndAccesses s o ++ [.cell .f]
  | .res b o _ => changeAccesses s (clearBit8 b (s.opnd o)) o
  | .set b o _ => changeAccesses s (setBit8 b (s.opnd o)) o
  | .call _ _ | .rst _ _ => pushAccesses s s.pc
  | .callCc k _ _ _ => .cell .f :: if condHolds k s.flags then pushAccesses s s.pc else []
  | .retCc k _ _ => .cell .f :: if condHolds k s.flags then popAccesses s else []
  | .halt _ => if s.ime then [] else [.cell .ie, .cell .ifr]
  | .ldRp _ _ _ | .jp _ _ | .jr _ _ | .nop _ | .stop _ | .di _ | .ei _ | .illegal _ => []

theorem accesses_shape (i : Instr) (s : State) : accesses i s = (shapeOf i).accesses s := by
  cases i
  case prefixCb op2 =>
    show cbAccesses op2 s = (cbShape op2).accesses s
    unfold cbAccesses cbShape
    dsimp only
    generalize opnd8 (field3 op2 0) = o
    generalize rotOfField (field3 op2 3) = rot
    cases field2 op2 6 <;> cases o <;> first | rfl | (cases rot <;> rfl)
  all_goals rfl

/-- The addresses a shape stores to. -/
def Shape.stores (s : State) (x : Shape) : List Word := (x.accesses s).filterMap Access.storeAddr

theorem storesTo_shape (i : Instr) (s : State) : storesTo i s = (shapeOf i).stores s := by
  rw [storesTo, accesses_shape, Shape.stores]

theorem State.setPair_reg (s : State) (p : Reg16) (v : Word) {r : Reg8} (h : r ∉ pairDest p) :
    (s.setPair p v).reg r = s.reg r := by
  cases p <;> simp [pairDest] at h <;> simp [State.setPair, *]

@[simp] theorem State.setPair_byteAt (s : State) (p : Reg16) (v a : Word) : (s.setPair p v).byteAt a = s.byteAt a := by
  cases p <;> simp [State.setPair]

theorem State.setOpnd_reg (s : State) (o : Opnd8) (v : Byte) {r : Reg8} (h : r ∉ opndDest o) :
    (s.setOpnd o v).reg r = s.reg r := by
  cases o <;> simp [opndDest] at h <;> simp [State.setOpnd, *]

/-- The addresses an operand in memory stands for. -/
def opndStores (s : State) : Opnd8 → List Word
  | .reg _ => []
  | .indHl => [s.pair .hl]

theorem State.setOpnd_byteAt {s : State} {r : RamBus} (hr : s.bus = .ram r) (o : Opnd8) (v : Byte) {a : Word}
    (h : a ∉ opndStores s o) : ((s.afterOpnd o).setOpnd o v).byteAt a = s.byteAt a := by
  cases o with
  | reg r => simp [State.setOpnd, State.afterOpnd]
  | indHl =>
    simp only [State.afterOpnd, State.afterRead_ram hr]
    exact State.byteAt_storeByte_other hr v (by simpa [opndStores] using h)

theorem State.pushed_byteAt {s : State} {r : RamBus} (hr : s.bus = .ram r) (v : Word) {a : Word}
    (h : a ∉ [dec16 s.sp, dec16 (dec16 s.sp)]) : (s.pushed v).byteAt a = s.byteAt a := by
  have e : dec16 (dec16 s.sp) = s.sp - 2#16 := by simp only [dec16_eq]; bv_omega
  simp only [List.mem_cons, List.not_mem_nil, or_false, not_or, e] at h
  rw [dec16_eq] at h
  obtain ⟨m, hm, -, -, -⟩ := s.storeByte_ram hr (s.sp - 1#16) (hiByte v)
  simp only [State.pushed, State.setSp_byteAt]
  rw [State.byteAt_storeByte_other hm _ h.2, State.byteAt_storeByte_other hr _ h.1]

@[simp] theorem State.pushed_reg (s : State) (v : Word) (r : Reg8) : (s.pushed v).reg r = s.reg r := by
  simp [State.pushed]

@[simp] theorem State.afterAccess_byteAt (s : State) (m : MemOpnd) (x a : Word) :
    (s.afterAccess m x).byteAt a = s.byteAt a := by
  cases m <;> simp [State.afterAccess]

theorem State.popped_byteAt {s : State} {r : RamBus} (hr : s.bus = .ram r) (a : Word) : s.popped.byteAt a = s.byteAt a := by
  rw [State.popped, State.afterRead_ram hr, State.afterRead_ram hr, State.setSp_byteAt]

/-! ### The stack after the counter or PC has moved, and after a push -/

@[simp] theorem State.tick_canPop (s : State) (n : Nat) : (s.tick n).canPop = s.canPop := by
  simp [State.canPop, State.tick_afterRead]

@[simp] theorem State.tick_top (s : State) (n : Nat) : (s.tick n).top = s.top := by
  simp [State.top, State.tick_afterRead]

@[simp] theorem State.tick_popped (s : State) (n : Nat) : (s.tick n).popped = s.popped.tick n := by
  simp only [State.popped, State.tick_afterRead, State.tick_sp]
  rfl

@[simp] theorem State.setPc_canPop (s : State) (v : Word) : (s.setPc v).canPop = s.canPop := by
  simp [State.canPop, State.setPc_afterRead]

@[simp] theorem State.setPc_top (s : State) (v : Word) : (s.setPc v).top = s.top := by
  simp [State.top, State.setPc_afterRead]

@[simp] theorem State.setPc_popped (s : State) (v : Word) : (s.setPc v).popped = s.popped.setPc v := by
  simp only [State.popped, State.setPc_afterRead, State.setPc_sp]
  rfl

/-- On RAM_BUS a pop after a push gives the word pushed and the SP before it, where the two slots are bytes of the bus or IE. -/
theorem State.pushed_pops {s : State} {r : RamBus} (hr : s.bus = .ram r) (v : Word) (hw : r.mem.wf = true)
    (h0 : s.canPush v = true) (h1 : s.canRead (s.sp - 1#16) = true) (h2 : s.canRead (s.sp - 2#16) = true)
    (h3 : s.sp - 1#16 ≠ ifAddr) (h4 : s.sp - 2#16 ≠ ifAddr) :
    (s.pushed v).canPop = true ∧ (s.pushed v).top = v ∧ (s.pushed v).popped = (s.pushed v).setSp s.sp := by
  obtain ⟨m, hm, hmw, -, -⟩ := s.storeByte_ram hr (s.sp - 1#16) (hiByte v)
  obtain ⟨m', hm', -, -, -⟩ := (s.storeByte (s.sp - 1#16) (hiByte v)).storeByte_ram hm (s.sp - 2#16) (loByte v)
  have hb : (s.pushed v).bus = .ram { r with mem := m' } := by simp only [State.pushed, State.setSp_bus]; exact hm'
  simp only [State.canPush, Bool.and_eq_true, Bool.not_eq_true'] at h0
  obtain ⟨⟨hsp, c1⟩, c2⟩ := h0
  have a0 : (s.pushed v).sp = s.sp - 2#16 := rfl
  have e1 : s.sp - 2#16 + 1#16 = s.sp - 1#16 := by bv_omega
  have e2 : s.sp - 2#16 + 2#16 = s.sp := by bv_omega
  have r1 : (s.pushed v).canRead (s.sp - 2#16) = true := by
    simp only [State.pushed, State.setSp_canRead]
    exact State.canRead_storeByte hm _ (State.canRead_storeByte hr _ h2)
  have r2 : (s.pushed v).canRead (s.sp - 1#16) = true := by
    simp only [State.pushed, State.setSp_canRead]
    exact State.canRead_storeByte hm _ (State.canRead_storeByte hr _ h1)
  have b1 : (s.pushed v).byteAt (s.sp - 2#16) = loByte v := by
    simp only [State.pushed, State.setSp_byteAt]
    exact State.byteAt_storeByte_same hm (hmw hw) h4 c2
  have b2 : (s.pushed v).byteAt (s.sp - 1#16) = hiByte v := by
    simp only [State.pushed, State.setSp_byteAt]
    rw [State.byteAt_storeByte_other hm _ (by bv_omega)]
    exact State.byteAt_storeByte_same hr hw h3 c1
  have ar := State.afterRead_ram hb
  refine ⟨?_, ?_, ?_⟩
  · simp only [State.canPop, ar, a0, e1, r1, r2]; rfl
  · simp only [State.top, ar, a0, e1, b1, b2, word16_hi_lo]
  · simp only [State.popped, ar, a0, e2]

/-- A shape leaves every register alone that is not its destination. -/
theorem shape_reg (x : Shape) (s : State) {r : Reg8} (h : r ∉ x.dest) : (x.after s).reg r = s.reg r := by
  have pair := fun (u : State) (p : Reg16) (v : Word) (hp : r ∉ pairDest p) => u.setPair_reg p v hp
  have opnd := fun (u : State) (o : Opnd8) (v : Byte) (hp : r ∉ opndDest o) => u.setOpnd_reg o v hp
  cases x
  case ld | res | set => exact (opnd _ _ _ h).trans (State.afterOpnd_reg _ _ _)
  case ldImm => exact opnd _ _ _ h
  case inc | dec | rot => exact (State.setF_reg _ _ _).trans ((opnd _ _ _ h).trans (State.afterOpnd_reg _ _ _))
  case ldRp | incRp | decRp => exact pair _ _ _ h
  case pop => exact (pair _ _ _ h).trans (State.popped_reg _ _)
  case ldHlSp => exact (State.setF_reg _ _ _).trans (pair _ _ _ h)
  case addHl => exact (pair _ .hl _ h).trans (State.setF_reg _ _ _)
  case loadA m _ => cases m <;> simp [Shape.dest] at h <;> simp [Shape.after, State.afterAccess, State.setPair, h]
  case storeA m _ => cases m <;> simp [Shape.dest] at h <;> simp [Shape.after, State.afterAccess, State.setPair, h]
  case alu op _ _ => cases op <;> simp [Shape.dest] at h <;> simp [Shape.after, State.afterAlu, h]
  case daa | cpl | rotA => simp [Shape.dest] at h; simp [Shape.after, h]
  case jpCc | jrCc | callCc | retCc => simp only [Shape.after]; split <;> simp
  case halt => simp only [Shape.after]; split <;> cases r <;> rfl
  case reti => exact Eq.trans (by cases r <;> rfl) ((State.setPc_reg s.popped s.top r).trans (s.popped_reg r))
  case stop | di | ei => cases r <;> rfl
  all_goals simp [Shape.after]

/-- On RAM_BUS a shape leaves every byte alone that it does not store to. -/
theorem shape_byteAt (x : Shape) {s : State} {r : RamBus} (hr : s.bus = .ram r) {a : Word} (h : a ∉ x.stores s) :
    (x.after s).byteAt a = s.byteAt a := by
  have hrd := State.afterRead_ram hr
  have hop : ∀ o, s.afterOpnd o = s := fun o => by cases o <;> simp [State.afterOpnd, hrd]
  have hsrc : ∀ o, s.afterSrc o = s := fun o => by cases o <;> simp [State.afterSrc, hop]
  have chg : ∀ o v b, a ∉ (changeAccesses s v o ++ b).filterMap Access.storeAddr →
      ((s.afterOpnd o).setOpnd o v).byteAt a = s.byteAt a := by
    intro o v b hh
    refine State.setOpnd_byteAt hr o v ?_
    cases o with
    | reg r => simp [opndStores]
    | indHl =>
      simp only [opndStores, List.mem_singleton]
      intro e
      exact hh (by simp [changeAccesses, changeHl, Access.storeAddr, e])
  cases x
  case ld dst src _ =>
    cases dst with
    | reg q => simp [Shape.after, hop, State.setOpnd]
    | indHl =>
      simp only [Shape.after, hop, State.setOpnd]
      refine State.byteAt_storeByte_other hr _ fun e => h ?_
      cases src <;> simp [Shape.stores, Shape.accesses, changeHl, Access.storeAddr, e]
  case ldImm dst v _ =>
    cases dst with
    | reg q => simp [Shape.after, State.setOpnd]
    | indHl =>
      refine State.byteAt_storeByte_other hr _ fun e => h ?_
      simp [Shape.stores, Shape.accesses, Access.storeAddr, e]
  case res | set =>
    refine chg _ _ [] ?_
    rw [List.append_nil]
    exact h
  case inc | dec => exact (State.setF_byteAt _ _ _).trans (chg _ _ _ h)
  case rot op o _ =>
    refine (State.setF_byteAt _ _ _).trans (chg _ _ [] fun e => h ?_)
    rw [List.append_nil] at e
    simp only [Shape.stores, Shape.accesses, List.filterMap_append, List.mem_append]
    exact .inr e
  case storeA m _ =>
    simp only [Shape.after, State.afterAccess_byteAt]
    refine State.byteAt_storeByte_other hr _ fun e => h ?_
    simp [Shape.stores, Shape.accesses, Access.storeAddr, e]
  case storeSp b _ =>
    simp only [Shape.stores, Shape.accesses, Access.storeAddr, List.filterMap_cons, List.filterMap_nil, List.mem_cons,
      List.not_mem_nil, or_false, not_or] at h
    obtain ⟨m, hm, -, -, -⟩ := s.storeByte_ram hr b (loByte s.sp)
    simp only [Shape.after]
    rw [State.byteAt_storeByte_other hm _ h.2, State.byteAt_storeByte_other hr _ h.1]
  case push => exact State.pushed_byteAt hr _ h
  case call | rst => exact (State.setPc_byteAt _ _ _).trans (State.pushed_byteAt hr _ h)
  case callCc k _ _ _ =>
    simp only [Shape.stores, Shape.accesses] at h
    simp only [Shape.after]
    split
    · rename_i hk
      rw [if_pos hk] at h
      exact (State.setPc_byteAt _ _ _).trans (State.pushed_byteAt hr _ h)
    · rfl
  case alu op _ _ => cases op <;> simp [Shape.after, State.afterAlu, hsrc]
  case jpCc | jrCc => simp only [Shape.after]; split <;> simp
  case retCc => simp only [Shape.after]; split <;> simp [State.popped_byteAt hr]
  case ret => simp [Shape.after, State.popped_byteAt hr]
  case pop => simp [Shape.after, State.popped_byteAt hr]
  case halt => simp only [Shape.after]; split <;> rfl
  case reti => exact (State.setPc_byteAt s.popped s.top a).trans (State.popped_byteAt hr a)
  case stop | di | ei => rfl
  all_goals simp [Shape.after, hop, hrd]

end Sys2Proof.Machine
end

