-- ==== Sys2Proof/Laws/Step.lean ====
section
/-! SUPPORT. What a step can do, said once: an idle step, an interrupt service, or one instruction; what the fetch does; and
what carries an invariant through all of it. -/

namespace Sys2Proof.Machine

/-! ### The fetch -/

@[simp] theorem fetch8_ok_iff (s t : State) (v : Byte) :
    fetch8 s = .ok v t ↔ s.canRead s.pc = true ∧ v = s.byteAt s.pc ∧ t = (s.afterRead s.pc).afterFetch := by
  simp only [fetch8, Op.bind_ok_iff, Op.state_ok_iff, memRead8_ok_iff, Op.update_ok_iff, Op.pure_ok_iff]
  constructor
  · rintro ⟨_, _, ⟨hx, rfl⟩, _, _, ⟨h1, rfl, rfl⟩, _, _, rfl, rfl, rfl⟩
    rw [hx] at h1 ⊢
    exact ⟨h1, rfl, rfl⟩
  · rintro ⟨h1, rfl, rfl⟩; exact ⟨_, _, ⟨rfl, rfl⟩, _, _, ⟨h1, rfl, rfl⟩, (), _, rfl, rfl, rfl⟩

/-- A fetch that does not succeed raises the fault of the read at PC. -/
theorem fetch8_error_iff (s t : State) (f : Fault) :
    fetch8 s = .error f t ↔ s.canRead s.pc = false ∧ f = s.refusal (.read s.pc) ∧ t = s.afterRead s.pc := by
  simp only [fetch8, Op.bind_error_iff, Op.state_ok_iff, Op.state_error, memRead8_error_iff, Op.update_error, Op.pure_error,
    and_false, exists_false, or_false, false_or]
  constructor
  · rintro ⟨_, _, ⟨rfl, rfl⟩, h⟩; exact h
  · intro h; exact ⟨_, _, ⟨rfl, rfl⟩, h⟩

/-- Without the halt quirk a fetch only moves PC. -/
theorem State.afterFetch_plain {s : State} (h : s.haltBug = false) : s.afterFetch = s.setPc (s.pc + 1#16) := by
  simp [State.afterFetch, h, inc16_eq, State.setPc]

/-- A state in which only PC and the bus have moved and the halt quirk may have been used up. -/
def State.Fetched (s t : State) : Prop :=
  ∃ pc, ∃ hb, ∃ bus, (hb = true → s.haltBug = true) ∧ t = { s with pc := pc, haltBug := hb, bus := bus }

theorem State.Fetched.refl (s : State) : s.Fetched s := ⟨s.pc, s.haltBug, s.bus, id, rfl⟩

theorem State.Fetched.trans {s t u : State} (h1 : s.Fetched t) (h2 : t.Fetched u) : s.Fetched u := by
  obtain ⟨p, b, c, hb, rfl⟩ := h1
  obtain ⟨p', b', c', hb', rfl⟩ := h2
  exact ⟨p', b', c', fun h => hb (hb' h), rfl⟩

/-- A read of the address space changes the bus at most. -/
theorem State.afterRead_eq (s : State) (a : Word) : s.afterRead a = s.setBus (s.afterRead a).bus := by
  unfold State.afterRead
  split
  · rfl
  · split <;> rfl

theorem State.fetched_afterFetch (s : State) : s.Fetched (s.afterRead s.pc).afterFetch := by
  rw [s.afterRead_eq]
  unfold State.afterFetch
  split
  · exact ⟨s.pc, false, _, by simp, rfl⟩
  · exact ⟨inc16 s.pc, s.haltBug, _, id, rfl⟩

/-- After one byte is fetched the halt quirk is gone. -/
theorem State.afterFetch_haltBug (s : State) : s.afterFetch.haltBug = false := by
  unfold State.afterFetch
  split
  · rfl
  · rename_i h; simpa using h

theorem fetch16_ok (s t : State) (v : Word) (h : fetch16 s = .ok v t) : s.Fetched t ∧ t.haltBug = false := by
  simp only [fetch16, Op.bind_ok_iff, fetch8_ok_iff, Op.pure_ok_iff] at h
  obtain ⟨_, _, ⟨_, rfl, rfl⟩, _, _, ⟨_, rfl, rfl⟩, rfl, rfl⟩ := h
  exact ⟨s.fetched_afterFetch.trans (State.fetched_afterFetch _), State.afterFetch_haltBug _⟩

/-- What the fetch of an instruction with opcode `op` does after the opcode, by the length of the instruction. -/
theorem fetchInstr_ok_iff (s t : State) (i : Instr) :
    fetchInstr s = .ok i t ↔
      s.canRead s.pc = true ∧
        ((s.byteAt s.pc = 0xCB#8 ∧
            ∃ op2, fetch8 (s.afterRead s.pc).afterFetch = .ok op2 t ∧ i = decodeCb op2) ∨
          (s.byteAt s.pc ≠ 0xCB#8 ∧ baseLength (s.byteAt s.pc) = 1 ∧ i = decodeBase (s.byteAt s.pc) 0#8 0#8 ∧
            t = (s.afterRead s.pc).afterFetch) ∨
          (s.byteAt s.pc ≠ 0xCB#8 ∧ baseLength (s.byteAt s.pc) = 2 ∧
            ∃ b1, fetch8 (s.afterRead s.pc).afterFetch = .ok b1 t ∧ i = decodeBase (s.byteAt s.pc) b1 0#8) ∨
          (s.byteAt s.pc ≠ 0xCB#8 ∧ baseLength (s.byteAt s.pc) ≠ 1 ∧ baseLength (s.byteAt s.pc) ≠ 2 ∧
            ∃ n, fetch16 (s.afterRead s.pc).afterFetch = .ok n t ∧ i = decodeBase (s.byteAt s.pc) (loByte n) (hiByte n))) := by
  have key : fetchInstr s = .ok i t ↔ s.canRead s.pc = true ∧
      (if s.byteAt s.pc = 0xCB#8 then (do let op2 ← fetch8; return decodeCb op2)
        else match baseLength (s.byteAt s.pc) with
          | 1 => return decodeBase (s.byteAt s.pc) 0#8 0#8
          | 2 => do let b1 ← fetch8; return decodeBase (s.byteAt s.pc) b1 0#8
          | _ => do let n ← fetch16; return decodeBase (s.byteAt s.pc) (loByte n) (hiByte n) : Op Instr) (s.afterRead s.pc).afterFetch
        = .ok i t := by
    unfold fetchInstr
    rw [Op.bind_ok_iff]
    constructor
    · rintro ⟨_, _, hf, h⟩
      obtain ⟨hr, rfl, rfl⟩ := (fetch8_ok_iff _ _ _).mp hf
      exact ⟨hr, h⟩
    · rintro ⟨hr, h⟩
      exact ⟨_, _, (fetch8_ok_iff _ _ _).mpr ⟨hr, rfl, rfl⟩, h⟩
  have tail : ∀ {α : Type} (x : Op α) (g : α → Instr) (u : State),
      (do let v ← x; return g v : Op Instr) u = .ok i t ↔ ∃ v, x u = .ok v t ∧ i = g v := by
    intro α x g u
    rw [Op.bind_ok_iff]
    constructor
    · rintro ⟨v, w, hx, hp⟩
      obtain ⟨rfl, rfl⟩ := (Op.pure_ok_iff _ _ _ _).mp hp
      exact ⟨v, hx, rfl⟩
    · rintro ⟨v, hx, rfl⟩
      exact ⟨v, t, hx, (Op.pure_ok_iff _ _ _ _).mpr ⟨rfl, rfl⟩⟩
  rw [key]
  refine and_congr_right fun _ => ?_
  by_cases hc : s.byteAt s.pc = 0xCB#8
  · rw [if_pos hc, tail]
    simp [hc]
  · rw [if_neg hc]
    generalize baseLength (s.byteAt s.pc) = n
    match n with
    | 1 => simp [hc]
    | 2 =>
      have := tail fetch8 (fun b1 => decodeBase (s.byteAt s.pc) b1 0#8) (s.afterRead s.pc).afterFetch
      simp [hc]
    | 0 =>
      have := tail fetch16 (fun n => decodeBase (s.byteAt s.pc) (loByte n) (hiByte n)) (s.afterRead s.pc).afterFetch
      simp [hc]
    | n + 3 =>
      have := tail fetch16 (fun n => decodeBase (s.byteAt s.pc) (loByte n) (hiByte n)) (s.afterRead s.pc).afterFetch
      simp [hc]

/-- The fetch of an instruction moves PC, uses the halt quirk up, and changes nothing else. -/
theorem fetchInstr_ok {s t : State} {i : Instr} (h : fetchInstr s = .ok i t) : s.Fetched t ∧ t.haltBug = false := by
  have one : ∀ v, fetch8 (s.afterRead s.pc).afterFetch = .ok v t → s.Fetched t ∧ t.haltBug = false := by
    intro v hv
    obtain ⟨_, _, rfl⟩ := (fetch8_ok_iff _ _ _).mp hv
    exact ⟨s.fetched_afterFetch.trans (State.fetched_afterFetch _), State.afterFetch_haltBug _⟩
  obtain ⟨_, ⟨_, v, hv, _⟩ | ⟨_, _, _, rfl⟩ | ⟨_, _, v, hv, _⟩ | ⟨_, _, _, v, hv, _⟩⟩ := (fetchInstr_ok_iff s t i).mp h
  · exact one v hv
  · exact ⟨s.fetched_afterFetch, State.afterFetch_haltBug _⟩
  · exact one v hv
  · obtain ⟨hf, hb⟩ := fetch16_ok _ _ _ hv
    exact ⟨s.fetched_afterFetch.trans hf, hb⟩

/-- The fetch reads an opcode at PC, and what it answers is a row that starts with that opcode. -/
theorem fetchInstr_opcode {s t : State} {i : Instr} (h : fetchInstr s = .ok i t) :
    s.canRead s.pc = true ∧
      ((s.byteAt s.pc = 0xCB#8 ∧ ∃ op2, i = decodeCb op2) ∨
        (s.byteAt s.pc ≠ 0xCB#8 ∧ ∃ b1 b2, i = decodeBase (s.byteAt s.pc) b1 b2)) := by
  obtain ⟨hr, ⟨hc, v, _, hi⟩ | ⟨hc, _, hi, _⟩ | ⟨hc, _, v, _, hi⟩ | ⟨hc, _, _, v, _, hi⟩⟩ := (fetchInstr_ok_iff s t i).mp h
  · exact ⟨hr, .inl ⟨hc, v, hi⟩⟩
  · exact ⟨hr, .inr ⟨hc, _, _, hi⟩⟩
  · exact ⟨hr, .inr ⟨hc, _, _, hi⟩⟩
  · exact ⟨hr, .inr ⟨hc, _, _, hi⟩⟩

/-! ### The boundary -/

theorem leaveStop_ok_iff (s t : State) (b : Bool) :
    leaveStop s = .ok b t ↔
      (s.stopped = false ∧ b = true ∧ t = s) ∨
        (s.stopped = true ∧ s.unset.ifr = false ∧
          ((s.ifr.getLsbD 4 = true ∧ b = true ∧ t = { s with stopped := false }) ∨
            (s.ifr.getLsbD 4 = false ∧ b = false ∧ t = s))) := by
  simp only [leaveStop, Op.bind_ok_iff, Op.state_ok_iff]
  constructor
  · rintro ⟨_, _, ⟨hx, hy⟩, h⟩
    rw [hx, hy] at h
    split at h <;> rename_i hs
    · simp only [Op.bind_ok_iff, readIf_ok_iff] at h
      obtain ⟨_, _, ⟨h1, hz, hw⟩, h⟩ := h
      rw [hz, hw] at h
      refine .inr ⟨hs, h1, ?_⟩
      split at h <;> rename_i hb
      · simp only [Op.bind_ok_iff, Op.update_ok_iff, Op.pure_ok_iff] at h
        obtain ⟨_, _, rfl, rfl, rfl⟩ := h
        exact .inl ⟨hb, rfl, rfl⟩
      · obtain ⟨rfl, rfl⟩ := (Op.pure_ok_iff _ _ _ _).mp h
        exact .inr ⟨by simpa using hb, rfl, rfl⟩
    · obtain ⟨rfl, rfl⟩ := (Op.pure_ok_iff _ _ _ _).mp h
      exact .inl ⟨by simpa using hs, rfl, rfl⟩
  · rintro (⟨hs, rfl, rfl⟩ | ⟨hs, h1, ⟨hb, rfl, rfl⟩ | ⟨hb, rfl, rfl⟩⟩)
    · exact ⟨_, _, ⟨rfl, rfl⟩, by rw [if_neg (by simp [hs])]; exact (Op.pure_ok_iff _ _ _ _).mpr ⟨rfl, rfl⟩⟩
    · refine ⟨_, _, ⟨rfl, rfl⟩, ?_⟩
      rw [if_pos hs]
      simp only [Op.bind_ok_iff, readIf_ok_iff]
      refine ⟨_, _, ⟨h1, rfl, rfl⟩, ?_⟩
      rw [if_pos hb]
      simp only [Op.bind_ok_iff, Op.update_ok_iff, Op.pure_ok_iff]
      exact ⟨(), _, rfl, trivial, rfl⟩
    · refine ⟨_, _, ⟨rfl, rfl⟩, ?_⟩
      rw [if_pos hs]
      simp only [Op.bind_ok_iff, readIf_ok_iff]
      refine ⟨_, _, ⟨h1, rfl, rfl⟩, ?_⟩
      rw [if_neg (by simp only [hb]; simp)]
      exact (Op.pure_ok_iff _ _ _ _).mpr ⟨rfl, rfl⟩

theorem leaveHalt_ok_iff (s t : State) (b : Bool) :
    leaveHalt s = .ok b t ↔
      (s.halted = false ∧ b = true ∧ t = s) ∨
        (s.halted = true ∧ s.unset.ie = false ∧ s.unset.ifr = false ∧
          ((pendingOf s.ie s.ifr ≠ 0#5 ∧ b = true ∧ t = { s with halted := false }) ∨
            (pendingOf s.ie s.ifr = 0#5 ∧ b = false ∧ t = s))) := by
  simp only [leaveHalt, Op.bind_ok_iff, Op.state_ok_iff]
  constructor
  · rintro ⟨_, _, ⟨hx, hy⟩, h⟩
    rw [hx, hy] at h
    split at h <;> rename_i hs
    · simp only [Op.bind_ok_iff, readPending_ok_iff] at h
      obtain ⟨_, _, ⟨h1, h2, hz, hw⟩, h⟩ := h
      rw [hz, hw] at h
      refine .inr ⟨hs, h1, h2, ?_⟩
      split at h <;> rename_i hb
      · obtain ⟨rfl, rfl⟩ := (Op.pure_ok_iff _ _ _ _).mp h
        exact .inr ⟨hb, rfl, rfl⟩
      · simp only [Op.bind_ok_iff, Op.update_ok_iff, Op.pure_ok_iff] at h
        obtain ⟨_, _, rfl, rfl, rfl⟩ := h
        exact .inl ⟨hb, rfl, rfl⟩
    · obtain ⟨rfl, rfl⟩ := (Op.pure_ok_iff _ _ _ _).mp h
      exact .inl ⟨by simpa using hs, rfl, rfl⟩
  · rintro (⟨hs, rfl, rfl⟩ | ⟨hs, h1, h2, ⟨hb, rfl, rfl⟩ | ⟨hb, rfl, rfl⟩⟩)
    · exact ⟨_, _, ⟨rfl, rfl⟩, by rw [if_neg (by simp [hs])]; exact (Op.pure_ok_iff _ _ _ _).mpr ⟨rfl, rfl⟩⟩
    · refine ⟨_, _, ⟨rfl, rfl⟩, ?_⟩
      rw [if_pos hs]
      simp only [Op.bind_ok_iff, readPending_ok_iff]
      refine ⟨_, _, ⟨h1, h2, rfl, rfl⟩, ?_⟩
      rw [if_neg hb]
      simp only [Op.bind_ok_iff, Op.update_ok_iff, Op.pure_ok_iff]
      exact ⟨(), _, rfl, trivial, rfl⟩
    · refine ⟨_, _, ⟨rfl, rfl⟩, ?_⟩
      rw [if_pos hs]
      simp only [Op.bind_ok_iff, readPending_ok_iff]
      refine ⟨_, _, ⟨h1, h2, rfl, rfl⟩, ?_⟩
      rw [if_pos hb]
      exact (Op.pure_ok_iff _ _ _ _).mpr ⟨rfl, rfl⟩

theorem wantsService_ok_iff (s t : State) (b : Bool) :
    wantsService s = .ok b t ↔
      t = s ∧
        ((s.ime = false ∧ b = false) ∨
          (s.ime = true ∧ s.unset.ie = false ∧ s.unset.ifr = false ∧ b = decide (pendingOf s.ie s.ifr ≠ 0#5))) := by
  simp only [wantsService, Op.bind_ok_iff, Op.state_ok_iff]
  constructor
  · rintro ⟨_, _, ⟨hx, hy⟩, h⟩
    rw [hx, hy] at h
    split at h <;> rename_i hs
    · simp only [Op.bind_ok_iff, readPending_ok_iff, Op.pure_ok_iff] at h
      obtain ⟨_, _, ⟨h1, h2, rfl, rfl⟩, rfl, rfl⟩ := h
      exact ⟨rfl, .inr ⟨hs, h1, h2, rfl⟩⟩
    · obtain ⟨rfl, rfl⟩ := (Op.pure_ok_iff _ _ _ _).mp h
      exact ⟨rfl, .inl ⟨by simpa using hs, rfl⟩⟩
  · rintro ⟨rfl, ⟨hs, rfl⟩ | ⟨hs, h1, h2, rfl⟩⟩
    · exact ⟨_, _, ⟨rfl, rfl⟩, by rw [if_neg (by simp [hs])]; exact (Op.pure_ok_iff _ _ _ _).mpr ⟨rfl, rfl⟩⟩
    · refine ⟨_, _, ⟨rfl, rfl⟩, ?_⟩
      rw [if_pos hs]
      simp only [Op.bind_ok_iff, readPending_ok_iff, Op.pure_ok_iff]
      exact ⟨_, _, ⟨h1, h2, rfl, rfl⟩, rfl, rfl⟩

/-- The state from which a step that is not idle goes on: neither stopped nor halted. -/
def State.awake (s : State) : State := { s with stopped := false, halted := false }

theorem State.awake_eq {s : State} (h1 : s.stopped = false) (h2 : s.halted = false) : s = s.awake := by
  cases s; simp_all [State.awake]

/-- The checks answer "idle": a stopped core stays as it is, a halted one may have left the stop. -/
theorem boundary_idle {s t : State} (h : boundary s = .ok .idle t) :
    (s.stopped = true ∧ t = s) ∨ (s.halted = true ∧ t = { s with stopped := false }) := by
  simp only [boundary, Op.bind_ok_iff, leaveStop_ok_iff] at h
  obtain ⟨r, _, (⟨hs, rfl, rfl⟩ | ⟨hs, _, ⟨_, rfl, rfl⟩ | ⟨_, rfl, rfl⟩⟩), h⟩ := h
  · simp only [if_true, Op.bind_ok_iff, leaveHalt_ok_iff] at h
    obtain ⟨_, _, (⟨_, rfl, rfl⟩ | ⟨hh, _, _, ⟨_, rfl, rfl⟩ | ⟨_, rfl, rfl⟩⟩), h⟩ := h
    · simp only [if_true, Op.bind_ok_iff, Op.pure_ok_iff] at h
      obtain ⟨v, _, _, hv, _⟩ := h
      cases v <;> simp at hv
    · simp only [if_true, Op.bind_ok_iff, Op.pure_ok_iff] at h
      obtain ⟨v, _, _, hv, _⟩ := h
      cases v <;> simp at hv
    · simp only [Bool.false_eq_true, if_false, Op.pure_ok_iff] at h
      exact .inr ⟨hh, by rw [h.2]; rw [← hs]⟩
  · simp only [if_true, Op.bind_ok_iff, leaveHalt_ok_iff] at h
    obtain ⟨_, _, (⟨_, rfl, rfl⟩ | ⟨hh, _, _, ⟨_, rfl, rfl⟩ | ⟨_, rfl, rfl⟩⟩), h⟩ := h
    · simp only [if_true, Op.bind_ok_iff, Op.pure_ok_iff] at h
      obtain ⟨v, _, _, hv, _⟩ := h
      cases v <;> simp at hv
    · simp only [if_true, Op.bind_ok_iff, Op.pure_ok_iff] at h
      obtain ⟨v, _, _, hv, _⟩ := h
      cases v <;> simp at hv
    · simp only [Bool.false_eq_true, if_false, Op.pure_ok_iff] at h
      exact .inr ⟨hh, h.2⟩
  · simp only [Bool.false_eq_true, if_false, Op.pure_ok_iff] at h
    exact .inl ⟨hs, h.2⟩

/-- The checks let the step go on, with an interrupt or with an instruction. -/
theorem boundary_busy {s t : State} {b : Boundary} (h : boundary s = .ok b t) (hb : b ≠ .idle) :
    t = s.awake ∧
      ((b = .service ∧ s.ime = true ∧ pendingOf s.ie s.ifr ≠ 0#5 ∧ s.unset.ie = false ∧ s.unset.ifr = false) ∨
        (b = .instruction ∧
          (s.ime = true → s.unset.ie = false ∧ s.unset.ifr = false ∧ pendingOf s.ie s.ifr = 0#5))) := by
  simp only [boundary, Op.bind_ok_iff, leaveStop_ok_iff] at h
  have fin : ∀ u : State, u.ime = s.ime → u.ie = s.ie → u.ifr = s.ifr → u.unset = s.unset → u = s.awake →
      (∃ v w, wantsService u = .ok v w ∧ (pure (if v then Boundary.service else .instruction) : Op Boundary) w = .ok b t) →
      t = s.awake ∧
      ((b = .service ∧ s.ime = true ∧ pendingOf s.ie s.ifr ≠ 0#5 ∧ s.unset.ie = false ∧ s.unset.ifr = false) ∨
        (b = .instruction ∧
          (s.ime = true → s.unset.ie = false ∧ s.unset.ifr = false ∧ pendingOf s.ie s.ifr = 0#5))) := by
    rintro u h1 h2 h3 h4 h5 ⟨v, w, hw, hp⟩
    simp only [wantsService_ok_iff, Op.pure_ok_iff] at hw hp
    rw [h1, h2, h3, h4] at hw
    obtain ⟨hwu, hw⟩ := hw
    refine ⟨by rw [hp.2, hwu, h5], ?_⟩
    rcases hw with ⟨hi, rfl⟩ | ⟨hi, hie, hif, rfl⟩
    · exact .inr ⟨hp.1, by simp [hi]⟩
    · by_cases hz : pendingOf s.ie s.ifr = 0#5
      · exact .inr ⟨by simpa [hz] using hp.1, fun _ => ⟨hie, hif, hz⟩⟩
      · exact .inl ⟨by simpa [hz] using hp.1, hi, hz, hie, hif⟩
  have halt : ∀ u : State, u.ime = s.ime → u.ie = s.ie → u.ifr = s.ifr → u.unset = s.unset → u.awake = s.awake →
      u.stopped = false → (∃ v w, leaveHalt u = .ok v w ∧ (if v then (do
        let serve ← wantsService
        return if serve then Boundary.service else .instruction) else return .idle : Op Boundary) w = .ok b t) →
      t = s.awake ∧
      ((b = .service ∧ s.ime = true ∧ pendingOf s.ie s.ifr ≠ 0#5 ∧ s.unset.ie = false ∧ s.unset.ifr = false) ∨
        (b = .instruction ∧
          (s.ime = true → s.unset.ie = false ∧ s.unset.ifr = false ∧ pendingOf s.ie s.ifr = 0#5))) := by
    rintro u h1 h2 h3 h4 h5 h6 ⟨v, w, hv, h⟩
    rcases (leaveHalt_ok_iff u w v).mp hv with ⟨hh, rfl, rfl⟩ | ⟨hh, _, _, ⟨_, rfl, rfl⟩ | ⟨_, rfl, rfl⟩⟩
    · rw [if_pos rfl, Op.bind_ok_iff] at h
      exact fin _ h1 h2 h3 h4 ((State.awake_eq h6 hh).trans h5) h
    · rw [if_pos rfl, Op.bind_ok_iff] at h
      exact fin { u with halted := false } h1 h2 h3 h4 ((State.awake_eq (s := { u with halted := false }) h6 rfl).trans h5) h
    · rw [if_neg (by simp)] at h
      exact absurd ((Op.pure_ok_iff _ _ _ _).mp h).1 hb
  obtain ⟨r, u, hr, h⟩ := h
  rcases hr with ⟨hs, rfl, rfl⟩ | ⟨hs, _, ⟨_, rfl, rfl⟩ | ⟨_, rfl, rfl⟩⟩
  · rw [if_pos rfl, Op.bind_ok_iff] at h
    exact halt _ rfl rfl rfl rfl rfl hs h
  · rw [if_pos rfl, Op.bind_ok_iff] at h
    exact halt { s with stopped := false } rfl rfl rfl rfl rfl rfl h
  · rw [if_neg (by simp)] at h
    exact absurd ((Op.pure_ok_iff _ _ _ _).mp h).1 hb

/-- A step notes where it began. -/
def State.begin (s : State) : State := { s with stepPc := s.pc }

/-- With no fault latched a step is the body of the sequencer. -/
theorem step_body {s : State} (hf : s.fault = none) : step s = stepBody exec s.begin := by
  unfold step stepWith
  split
  · rename_i h; simp [hf] at h
  · rfl

/-- With a fault latched a step answers that fault. -/
theorem step_latched {s : State} {f : Fault} (hf : s.fault = some f) : step s = .fault f := by
  unfold step stepWith
  rw [hf]

/-- What a step that answers a next state has done. -/
theorem step_next {s t : State} (h : step s = .next t) :
    s.fault = none ∧
      ((s.stopped = true ∧ t = s.begin.tick 4) ∨
        (s.halted = true ∧ t = ({ s.begin with stopped := false } : State).tick 4) ∨
        (s.ime = true ∧ pendingOf s.ie s.ifr ≠ 0#5 ∧ s.unset.ie = false ∧ s.unset.ifr = false ∧
          runOp service s.begin.awake = .next t) ∨
        (∃ i u w, (s.ime = true → s.unset.ie = false ∧ s.unset.ifr = false ∧ pendingOf s.ie s.ifr = 0#5) ∧
          fetchInstr s.begin.awake = .ok i u ∧ exec i u = .next w ∧ t = w.eiEpilogue s.eiPending)) := by
  cases hf : s.fault with
  | some f => simp [step_latched hf] at h
  | none =>
    rw [step_body hf] at h
    unfold stepBody at h
    refine ⟨rfl, ?_⟩
    cases hbd : boundary s.begin with
    | error f u => simp [hbd] at h
    | ok b u =>
      simp only [hbd] at h
      cases b with
      | idle =>
        simp only [Host.Outcome.next.injEq] at h
        rcases boundary_idle hbd with ⟨hs, hu⟩ | ⟨hs, hu⟩
        · exact .inl ⟨hs, by rw [← h, hu]; rfl⟩
        · exact .inr (.inl ⟨hs, by rw [← h, hu]; rfl⟩)
      | service =>
        obtain ⟨hu, ⟨_, h1, h2, h3, h4⟩ | ⟨hx, _⟩⟩ := boundary_busy hbd (by simp)
        · exact .inr (.inr (.inl ⟨h1, h2, h3, h4, by rw [← hu]; exact h⟩))
        · exact absurd hx (by simp)
      | instruction =>
        obtain ⟨hu, ⟨hx, _⟩ | ⟨_, h1⟩⟩ := boundary_busy hbd (by simp)
        · exact absurd hx (by simp)
        · refine .inr (.inr (.inr ?_))
          simp only [execOne] at h
          cases hfi : fetchInstr u with
          | error f v => simp [hfi] at h
          | ok i v =>
            simp only [hfi] at h
            cases he : exec i v with
            | next w =>
              simp only [he, eiEpilogue, Host.Outcome.next.injEq] at h
              refine ⟨i, v, w, h1, by rw [← hu]; exact hfi, he, ?_⟩
              rw [← h, hu]
              rfl
            | fault f => simp [he, eiEpilogue] at h
            | refused r => simp [he, eiEpilogue] at h

/-! ### Carrying an invariant through a meaning -/

/-- Beside the shared operations, an invariant must allow what DI, EI, RETI, HALT and STOP do to the cells of the boundary,
and the faults of HALT, STOP and the illegal opcodes. -/
structure AllowsAll (I : State → Prop) (P : Fault → Prop) : Prop extends Allows I P where
  di : ∀ s, I s → I { s with ime := false, eiPending := false }
  ei : ∀ s, I s → I { s with eiPending := true }
  reti : ∀ s, I s → I { s with ime := true, eiPending := false }
  halt : ∀ s, I s → I { s with halted := true }
  haltBug : ∀ s, I s → s.haltBugPolicy = .reproduce → I { s with haltBug := true }
  stop : ∀ s, I s → s.stopPolicy = .waitJoypad → I { s with stopped := true }
  haltFault : ∀ s, I s → s.haltBugPolicy = .fault → P (.haltBugFault s.stepPc s.bus)
  stopFault : ∀ s, I s → s.stopPolicy = .fault → P (.stopFault s.stepPc s.bus)

section Guards

variable {I : State → Prop} {P : Fault → Prop}

theorem callTo_guards (h : Allows I P) (a : Word) : (callTo a).Guards I P :=
  Op.Guards.state.bind fun _ => (push16_guards h _).bind fun _ => writePc_guards h _

theorem retTo_guards (h : Allows I P) : retTo.Guards I P := (pop16_guards h).bind fun _ => writePc_guards h _

theorem readPending_guards (h : Allows I P) : readPending.Guards I P :=
  (readIe_guards h).bind fun _ => (readIf_guards h).bind fun _ => Op.Guards.pure _

theorem haltOp_guards (h : AllowsAll I P) (n : Nat) : (haltOp n).Guards I P := by
  intro s hs
  refine ⟨fun m t hh => ?_, fun f t hh => ?_⟩
  · obtain ⟨_, ⟨_, rfl⟩ | ⟨_, _, _, ⟨_, rfl⟩ | ⟨_, hq, rfl⟩⟩⟩ := (haltOp_ok_iff n m s t).mp hh
    · exact h.halt s hs
    · exact h.halt s hs
    · exact h.haltBug s hs hq
  · simp only [haltOp, Op.bind_error_iff, Op.state_ok_iff, Op.state_error, false_or] at hh
    obtain ⟨_, _, ⟨hx, hy⟩, hh⟩ := hh
    rw [hx, hy] at hh
    split at hh
    · simp only [Op.bind_error_iff, Op.update_error, Op.pure_error, false_or, and_false, exists_false] at hh
    · simp only [Op.bind_error_iff, readPending_ok_iff] at hh
      rcases hh with hh | ⟨_, _, ⟨_, _, hz, hw⟩, hh⟩
      · exact ((readPending_guards h.toAllows) s hs).2 f t hh
      · rw [hz, hw] at hh
        split at hh
        · simp only [Op.bind_error_iff, Op.update_error, Op.pure_error, false_or, and_false, exists_false] at hh
        · cases hq : s.haltBugPolicy with
          | fault =>
            simp only [hq, raiseHaltBugFault, Op.raise_error_iff] at hh
            rw [hh.1]
            exact h.haltFault s hs hq
          | reproduce =>
            simp only [hq, Op.bind_error_iff, Op.update_error, Op.pure_error, false_or, and_false, exists_false] at hh

theorem stopOp_guards (h : AllowsAll I P) (n : Nat) : (stopOp n).Guards I P := by
  intro s hs
  refine ⟨fun m t hh => ?_, fun f t hh => ?_⟩
  · obtain ⟨hq, _, rfl⟩ := (stopOp_ok_iff n m s t).mp hh
    exact h.stop s hs hq
  · simp only [stopOp, Op.bind_error_iff, Op.state_ok_iff, Op.state_error, false_or] at hh
    obtain ⟨_, _, ⟨hx, hy⟩, hh⟩ := hh
    rw [hx, hy] at hh
    cases hq : s.stopPolicy with
    | fault =>
      simp only [hq, raiseStopFault, Op.raise_error_iff] at hh
      rw [hh.1]
      exact h.stopFault s hs hq
    | waitJoypad =>
      simp only [hq, Op.bind_error_iff, Op.update_error, Op.pure_error, false_or, and_false, exists_false] at hh

/-- Every meaning but an illegal opcode's guards what `AllowsAll` allows. -/
theorem shape_guards (h : AllowsAll I P) (x : Shape)
    (hill : ∀ opcode, x = .illegal opcode → ∀ s, I s → P (.decodeFault s.stepPc opcode s.cycles s.bus)) :
    x.op.Guards I P := by
  have ha := h.toAllows
  have ret : ∀ n : Nat, (Pure.pure n : Op Nat).Guards I P := fun n => Op.Guards.pure n
  cases x with
  | ld dst src n => exact (writeOpnd_guards ha _ (readOpnd_guards ha _)).bind fun _ => ret n
  | ldImm dst v n => exact (writeOpnd_guards ha _ (Op.Guards.pure v)).bind fun _ => ret n
  | loadA m n =>
    exact (addrOf_guards ha m).bind fun _ => (memRead8_guards ha _).bind fun _ => (writeReg_guards ha _ _).bind fun _ =>
      (afterAccess_guards ha m _).bind fun _ => ret n
  | storeA m n =>
    exact (addrOf_guards ha m).bind fun _ => (readReg_guards ha _).bind fun _ => (memWrite8_guards ha _ _).bind fun _ =>
      (afterAccess_guards ha m _).bind fun _ => ret n
  | ldRp p v n => exact (writePair_guards ha _ _).bind fun _ => ret n
  | storeSp a n => exact (readPair_guards ha _).bind fun _ => (memWrite16_guards ha _ _).bind fun _ => ret n
  | ldSpHl n => exact (readPair_guards ha _).bind fun _ => (writePair_guards ha _ _).bind fun _ => ret n
  | push p n => exact (readPair_guards ha _).bind fun _ => (push16_guards ha _).bind fun _ => ret n
  | pop p n => exact (pop16_guards ha).bind fun _ => (writePair_guards ha _ _).bind fun _ => ret n
  | ldHlSp e n =>
    exact (readPair_guards ha _).bind fun _ => (writePair_guards ha _ _).bind fun _ =>
      (setFlags_guards ha _ _ _ _).bind fun _ => ret n
  | alu op src n =>
    refine (readCarryIf_guards ha _).bind fun _ => (readSrc_guards ha _).bind fun _ => (readReg_guards ha _).bind fun _ => ?_
    cases op <;>
      first
      | exact (setFlags_guards ha _ _ _ _).bind fun _ => ret n
      | exact (writeReg_guards ha _ _).bind fun _ => (setFlags_guards ha _ _ _ _).bind fun _ => ret n
  | inc o n => exact (modifyOpnd_guards ha _ _).bind fun _ => (setFlags_guards ha _ _ _ _).bind fun _ => ret n
  | dec o n => exact (modifyOpnd_guards ha _ _).bind fun _ => (setFlags_guards ha _ _ _ _).bind fun _ => ret n
  | daa n =>
    exact (readReg_guards ha _).bind fun _ => (readF_guards ha).bind fun _ => (writeReg_guards ha _ _).bind fun _ =>
      (setFlags_guards ha _ _ _ _).bind fun _ => ret n
  | cpl n =>
    exact (readReg_guards ha _).bind fun _ => (writeReg_guards ha _ _).bind fun _ =>
      (setFlags_guards ha _ _ _ _).bind fun _ => ret n
  | scf n => exact (setFlags_guards ha _ _ _ _).bind fun _ => ret n
  | ccf n => exact (readF_guards ha).bind fun _ => (setFlags_guards ha _ _ _ _).bind fun _ => ret n
  | incRp p n => exact (readPair_guards ha _).bind fun _ => (writePair_guards ha _ _).bind fun _ => ret n
  | decRp p n => exact (readPair_guards ha _).bind fun _ => (writePair_guards ha _ _).bind fun _ => ret n
  | addHl p n =>
    exact (readPair_guards ha _).bind fun _ => (readPair_guards ha _).bind fun _ =>
      (setFlags_guards ha _ _ _ _).bind fun _ => (writePair_guards ha _ _).bind fun _ => ret n
  | addSp e n =>
    exact (readPair_guards ha _).bind fun _ => (setFlags_guards ha _ _ _ _).bind fun _ =>
      (writePair_guards ha _ _).bind fun _ => ret n
  | rotA op n =>
    exact (readCarryIf_guards ha _).bind fun _ => (readReg_guards ha _).bind fun _ => (writeReg_guards ha _ _).bind fun _ =>
      (setFlags_guards ha _ _ _ _).bind fun _ => ret n
  | rot op o n =>
    exact (readCarryIf_guards ha _).bind fun _ => (modifyOpnd_guards ha _ _).bind fun _ =>
      (setFlags_guards ha _ _ _ _).bind fun _ => ret n
  | bit b o n => exact (readOpnd_guards ha _).bind fun _ => (setFlags_guards ha _ _ _ _).bind fun _ => ret n
  | res b o n => exact (modifyOpnd_guards ha _ _).bind fun _ => ret n
  | set b o n => exact (modifyOpnd_guards ha _ _).bind fun _ => ret n
  | jp a n => exact (writePc_guards ha _).bind fun _ => ret n
  | jpCc k a x y =>
    refine (readF_guards ha).bind fun f => ?_
    split
    · exact (writePc_guards ha _).bind fun _ => ret x
    · exact ret y
  | jpHl n => exact (readPair_guards ha _).bind fun _ => (writePc_guards ha _).bind fun _ => ret n
  | jr e n => exact Op.Guards.state.bind fun _ => (writePc_guards ha _).bind fun _ => ret n
  | jrCc k e x y =>
    refine (readF_guards ha).bind fun f => ?_
    split
    · exact Op.Guards.state.bind fun _ => (writePc_guards ha _).bind fun _ => ret x
    · exact ret y
  | call a n => exact (callTo_guards ha _).bind fun _ => ret n
  | callCc k a x y =>
    refine (readF_guards ha).bind fun f => ?_
    split
    · exact (callTo_guards ha _).bind fun _ => ret x
    · exact ret y
  | ret n => exact (retTo_guards ha).bind fun _ => ret n
  | retCc k x y =>
    refine (readF_guards ha).bind fun f => ?_
    split
    · exact (retTo_guards ha).bind fun _ => ret x
    · exact ret y
  | reti n =>
    exact ((pop16_guards ha).bind fun _ => (writePc_guards ha _).bind fun _ => Op.Guards.update h.reti).bind fun _ => ret n
  | rst a n => exact (callTo_guards ha _).bind fun _ => ret n
  | nop n => exact ret n
  | halt n => exact haltOp_guards h n
  | stop n => exact stopOp_guards h n
  | di n => exact (Op.Guards.update h.di).bind fun _ => ret n
  | ei n => exact (Op.Guards.update h.ei).bind fun _ => ret n
  | illegal opcode => exact Op.Guards.raise fun s hs => hill opcode rfl s hs

/-- A meaning that answers a next state keeps every invariant `AllowsAll` allows. -/
theorem exec_keeps (h : AllowsAll I fun _ => True) (ht : ∀ s n, I s → I (s.tick n)) {i : Instr} {s t : State} (hs : I s)
    (he : exec i s = .next t) : I t := by
  rw [exec_shape] at he
  exact ((shape_guards h (shapeOf i) fun _ _ _ _ => trivial).runOp ht hs).1 t he

end Guards

end Sys2Proof.Machine
end

