-- ==== Sys2Proof/Laws/Walk.lean ====
section
/-! SUPPORT. The accesses of an instruction, one after another, on any bus: every meaning faults where its list of accesses
faults and as it faults, and where the list ends it leaves the bus, IF and IE as the list left them. -/

namespace Sys2Proof.Machine

/-- A list in two parts. -/
theorem State.walk_append (l m : List Access) : ∀ s : State,
    s.walk (l ++ m) = match s.walk l with
      | .ok u => u.walk m
      | .error f => .error f := by
  induction l with
  | nil => intro s; rfl
  | cons x l ih =>
    intro s
    simp only [List.cons_append, State.walk]
    split
    · exact ih _
    · rfl

/-- A list is walked as far as the first access that does not succeed. -/
theorem State.walk_refused {s u : State} {before after : List Access} {x : Access} (hw : s.walk before = .ok u)
    (hx : u.allows x = false) : s.walk (before ++ x :: after) = .error (u.refusal x) := by
  rw [State.walk_append, hw]
  simp [State.walk, hx]

/-- The accesses do not move the place of the step. -/
theorem State.walk_stepPc {l : List Access} : ∀ {s u : State}, s.walk l = .ok u → u.stepPc = s.stepPc := by
  induction l with
  | nil => intro s u h; cases h; rfl
  | cons x l ih =>
    intro s u h
    simp only [State.walk] at h
    split at h
    · rw [ih h]
      cases x <;> simp [State.afterDoing]
    · cases h

/-- Two states in which the address space and the place of the step are the same: only the registers may differ. -/
structure State.Sees (s u : State) : Prop where
  bus : s.bus = u.bus
  ifr : s.ifr = u.ifr
  ie : s.ie = u.ie
  stepPc : s.stepPc = u.stepPc
  unsetIfr : s.unset.ifr = u.unset.ifr
  unsetIe : s.unset.ie = u.unset.ie

theorem State.Sees.refl (s : State) : s.Sees s := ⟨rfl, rfl, rfl, rfl, rfl, rfl⟩

section Sees

variable {s u : State} (h : s.Sees u)

include h

theorem State.Sees.canRead (a : Word) : s.canRead a = u.canRead a := by
  simp only [State.canRead, h.bus, h.unsetIfr, h.unsetIe]

theorem State.Sees.canWrite (a : Word) (v : Byte) : s.canWrite a v = u.canWrite a v := by
  simp only [State.canWrite, h.bus]

theorem State.Sees.byteAt (a : Word) : s.byteAt a = u.byteAt a := by
  simp only [State.byteAt, h.bus, h.ifr, h.ie]

theorem State.Sees.afterRead (a : Word) : (s.afterRead a).Sees (u.afterRead a) := by
  obtain ⟨h1, h2, h3, h4, h5, h6⟩ := h
  unfold State.afterRead
  split
  · exact ⟨h1, h2, h3, h4, h5, h6⟩
  · split
    · exact ⟨h1, h2, h3, h4, h5, h6⟩
    · exact ⟨by simp [h1], h2, h3, h4, h5, h6⟩

theorem State.Sees.storeByte (a : Word) (v : Byte) : (s.storeByte a v).Sees (u.storeByte a v) := by
  obtain ⟨h1, h2, h3, h4, h5, h6⟩ := h
  unfold State.storeByte
  split
  · exact ⟨h1, rfl, h3, h4, rfl, h6⟩
  · split
    · exact ⟨h1, h2, rfl, h4, h5, rfl⟩
    · exact ⟨by simp [h1], h2, h3, h4, h5, h6⟩

theorem State.Sees.refusal_read (a : Word) : s.refusal (.read a) = u.refusal (.read a) := by
  simp only [State.refusal, h.stepPc, h.bus, (h.afterRead a).bus]

theorem State.Sees.refusal_write (a : Word) (v : Byte) : s.refusal (.write a v) = u.refusal (.write a v) := by
  simp only [State.refusal, h.stepPc, (h.storeByte a v).bus]

theorem State.Sees.setReg (r : Reg8) (v : Byte) : (s.setReg r v).Sees u := by
  obtain ⟨h1, h2, h3, h4, h5, h6⟩ := h
  cases r <;> exact ⟨h1, h2, h3, h4, h5, h6⟩

theorem State.Sees.setF (v : Byte) : (s.setF v).Sees u := ⟨h.bus, h.ifr, h.ie, h.stepPc, h.unsetIfr, h.unsetIe⟩

theorem State.Sees.setSp (v : Word) : (s.setSp v).Sees u := ⟨h.bus, h.ifr, h.ie, h.stepPc, h.unsetIfr, h.unsetIe⟩

theorem State.Sees.setPc (v : Word) : (s.setPc v).Sees u := ⟨h.bus, h.ifr, h.ie, h.stepPc, h.unsetIfr, h.unsetIe⟩

theorem State.Sees.setPair (p : Reg16) (v : Word) : (s.setPair p v).Sees u := by
  cases p with
  | bc => exact (h.setReg .b _).setReg .c _
  | de => exact (h.setReg .d _).setReg .e _
  | hl => exact (h.setReg .h _).setReg .l _
  | sp => exact h.setSp _
  | af => exact (h.setReg _ _).setF _

theorem State.Sees.afterAccess (m : MemOpnd) (a : Word) : (s.afterAccess m a).Sees u := by
  cases m with
  | indHlInc => exact h.setPair .hl _
  | indHlDec => exact h.setPair .hl _
  | indBc => exact h
  | indDe => exact h
  | abs a => exact h
  | high n => exact h
  | highC => exact h

end Sees

/-- The operation makes the accesses of the list, from a state that sees what `u` sees: it faults where the list does, with
its fault, and where the list ends it completes in a state that sees what the list left. -/
def Op.Makes {α : Type} (op : Op α) (s u : State) (l : List Access) : Prop :=
  match u.walk l with
  | .ok w => ∃ a t, op s = .ok a t ∧ t.Sees w
  | .error f => ∃ t, op s = .error f t

section Makes

variable {α β : Type} {s u : State} {l : List Access}

theorem Op.Makes.pure {a : α} (h : s.Sees u) : (Pure.pure a : Op α).Makes s u [] := ⟨a, s, rfl, h⟩

/-- A cell is read where its mark is that of the list's state, and then it holds a value. -/
theorem Op.Makes.readCellThen {cell : RegCell} {undef : State → Bool} {value : State → α} {f : α → Op β} (h : s.Sees u)
    (hu : undef s = u.unset.cell cell) (hf : undef s = false → (f (value s)).Makes s u l) :
    (Machine.readCell cell undef value >>= f).Makes s u (.cell cell :: l) := by
  unfold Op.Makes at hf ⊢
  simp only [State.walk, State.allows, State.afterDoing, ← hu]
  cases hx : undef s with
  | false =>
    rw [Op.bind_of_ok ((readCell_ok_iff cell undef value s s (value s)).mpr ⟨hx, rfl, rfl⟩)]
    exact hf hx
  | true =>
    refine ⟨s, Op.bind_of_error ?_ f⟩
    rw [readCell_error_iff]
    exact ⟨hx, by simp only [State.refusal, h.stepPc, h.bus], rfl⟩

theorem Op.Makes.readCell {cell : RegCell} {undef : State → Bool} {value : State → α} {f : α → Op β} (h : s.Sees u)
    (hu : undef s = u.unset.cell cell) (hf : (f (value s)).Makes s u l) :
    (Machine.readCell cell undef value >>= f).Makes s u (.cell cell :: l) := .readCellThen h hu fun _ => hf

theorem Op.Makes.read {a : Word} {f : Byte → Op β} (h : s.Sees u)
    (hf : (f (s.byteAt a)).Makes (s.afterRead a) (u.afterRead a) l) : (memRead8 a >>= f).Makes s u (.read a :: l) := by
  unfold Op.Makes
  simp only [State.walk, State.allows, State.afterDoing, ← h.canRead]
  cases hx : s.canRead a with
  | true =>
    rw [Op.bind_of_ok ((memRead8_ok_iff a s _ _).mpr ⟨hx, rfl, rfl⟩)]
    exact hf
  | false =>
    refine ⟨s.afterRead a, Op.bind_of_error ?_ f⟩
    rw [memRead8_error_iff]
    exact ⟨hx, (h.refusal_read a).symm, rfl⟩

theorem Op.Makes.write {a : Word} {v : Byte} {f : Unit → Op β} (h : s.Sees u)
    (hf : (f ()).Makes (s.storeByte a v) (u.storeByte a v) l) : (memWrite8 a v >>= f).Makes s u (.write a v :: l) := by
  unfold Op.Makes
  simp only [State.walk, State.allows, State.afterDoing, ← h.canWrite]
  cases hx : s.canWrite a v with
  | true =>
    rw [Op.bind_of_ok ((memWrite8_ok_iff a v s _ ()).mpr ⟨hx, rfl⟩)]
    exact hf
  | false =>
    refine ⟨s.storeByte a v, Op.bind_of_error ?_ f⟩
    rw [memWrite8_error_iff]
    exact ⟨hx, (h.refusal_write a v).symm, rfl⟩

theorem Op.Makes.update {g : State → State} {f : Unit → Op β} (hf : (f ()).Makes (g s) u l) :
    (Op.update g >>= f).Makes s u l := by
  unfold Op.Makes at hf ⊢
  rw [Op.bind_of_ok (show Op.update g s = .ok () (g s) from rfl)]
  exact hf

theorem Op.Makes.state {f : State → Op β} (hf : (f s).Makes s u l) : (Op.state >>= f).Makes s u l := by
  unfold Op.Makes at hf ⊢
  rw [Op.bind_of_ok (show Op.state s = .ok s s from rfl)]
  exact hf

/-- A flag update that keeps no flag reads nothing. -/
theorem Op.Makes.setFlags {z n h c : Bool} {f : Unit → Op β} (hf : (f ()).Makes (s.setF (packFlags z n h c)) u l) :
    (Machine.setFlags (some z) (some n) (some h) (some c) >>= f).Makes s u l := Op.Makes.update hf

/-- A flag update that keeps a flag reads F. -/
theorem Op.Makes.keepFlags {z n hf c : Option Bool} {f : Unit → Op β} (hk : z = none ∨ n = none ∨ hf = none ∨ c = none)
    (h : s.Sees u) (hu : s.unset.f = u.unset.f) (hl : ∀ v, (f ()).Makes (s.setF v) u l) :
    (Machine.setFlags z n hf c >>= f).Makes s u (.cell .f :: l) := by
  cases z <;> cases n <;> cases hf <;> cases c <;>
    first
    | (simp at hk; done)
    | (simp only [Machine.setFlags, bind_assoc]; exact Op.Makes.readCell h hu (Op.Makes.update (hl _)))

/-- A flag update where F is known to hold a value reads nothing that could stop it. -/
theorem Op.Makes.knownFlags {z n hf c : Option Bool} {f : Unit → Op β} (hd : s.unset.f = false)
    (hl : ∀ v, (f ()).Makes (s.setF v) u l) : (Machine.setFlags z n hf c >>= f).Makes s u l := by
  have read : ∀ g : Byte → Op β, (∀ v, (g v).Makes s u l) → (readF >>= g).Makes s u l := by
    intro g hg
    unfold Op.Makes
    rw [Op.bind_of_ok ((readF_ok_iff s s _).mpr ⟨hd, rfl, rfl⟩)]
    exact hg _
  cases z <;> cases n <;> cases hf <;> cases c <;>
    first
    | exact Op.Makes.update (hl _)
    | (simp only [Machine.setFlags, bind_assoc]; exact read _ fun v => Op.Makes.update (hl _))

theorem Op.Makes.carry {uses : Bool} {f : Bool → Op β} (h : s.Sees u) (hu : s.unset.f = u.unset.f)
    (hf : ∀ c, (c = (uses && flagC s.flags)) → (f c).Makes s u l) :
    (readCarryIf uses >>= f).Makes s u (carryCell uses ++ l) := by
  cases uses with
  | false => exact hf _ rfl
  | true =>
    simp only [readCarryIf, if_true, bind_assoc, pure_bind]
    exact Op.Makes.readCell h hu (hf _ (by simp))

theorem Op.Makes.readOpnd {o : Opnd8} {f : Byte → Op β} (hf : (f (s.opnd o)).Makes (s.afterOpnd o) (s.afterOpnd o) l) :
    (Machine.readOpnd o >>= f).Makes s s (opndAccesses s o ++ l) := by
  cases o with
  | reg r => exact Op.Makes.readCell (.refl s) (by cases r <;> rfl) hf
  | indHl =>
    simp only [Machine.readOpnd, bind_assoc]
    exact Op.Makes.readCell (.refl s) rfl (Op.Makes.read (.refl s) hf)

theorem Op.Makes.readSrc {o : Src8} {f : Byte → Op β} (hf : (f (s.src o)).Makes (s.afterSrc o) (s.afterSrc o) l) :
    (Machine.readSrc o >>= f).Makes s s (srcAccesses s o ++ l) := by
  cases o with
  | reg r => exact Op.Makes.readCell (.refl s) (by cases r <;> rfl) hf
  | indHl =>
    simp only [Machine.readSrc, Machine.readOpnd, bind_assoc]
    exact Op.Makes.readCell (.refl s) rfl (Op.Makes.read (.refl s) hf)
  | imm n => exact hf

/-- A read and a write of an operand: the rest runs in a state that sees what the list left and marks F as before. -/
theorem Op.Makes.modify {o : Opnd8} {g : Byte → Byte} {f : Byte → Op β}
    (hf : ∀ t w : State, t.Sees w → t.unset.f = w.unset.f → (f (s.opnd o)).Makes t w l) :
    (modifyOpnd o g >>= f).Makes s s (changeAccesses s (g (s.opnd o)) o ++ l) := by
  cases o with
  | reg r =>
    simp only [modifyOpnd, bind_assoc, pure_bind]
    exact Op.Makes.readCell (.refl s) (by cases r <;> rfl)
      (Op.Makes.update (hf _ _ ((State.Sees.refl s).setReg _ _) (by cases r <;> rfl)))
  | indHl =>
    simp only [modifyOpnd, bind_assoc, pure_bind]
    exact Op.Makes.readCell (.refl s) rfl (Op.Makes.read (.refl s) (Op.Makes.write (.refl _) (hf _ _ (.refl _) rfl)))

theorem Op.Makes.addr {m : MemOpnd} {f : Word → Op β} (hf : (f (memAddress m s)).Makes s s l) :
    (addrOf m >>= f).Makes s s (addrCell m ++ l) := by
  have h := State.Sees.refl s
  cases m <;> simp only [addrOf, checkAddr, readPair, readReg, bind_assoc, pure_bind]
  case abs | high => exact Op.Makes.state hf
  all_goals exact Op.Makes.readCell h rfl (Op.Makes.state hf)

theorem Op.Makes.push {v : Word} {f : Unit → Op β} (h : s.Sees u) (hu : s.unset.sp = u.unset.sp)
    (hf : ∀ t w : State, t.Sees w → (f ()).Makes t w l) : (push16 v >>= f).Makes s u (pushAccesses s v ++ l) := by
  simp only [push16, bind_assoc]
  exact Op.Makes.readCell h hu (Op.Makes.update (Op.Makes.write (h.setSp _) (Op.Makes.update
    (Op.Makes.write (((h.setSp _).storeByte _ _).setSp _) (hf _ _ ((((h.setSp _).storeByte _ _).setSp _).storeByte _ _))))))

theorem Op.Makes.pop {f : Word → Op β} (h : s.Sees u) (hu : s.unset.sp = u.unset.sp)
    (hf : ∀ v, ∀ t w : State, t.Sees w → (f v).Makes t w l) : (pop16 >>= f).Makes s u (popAccesses s ++ l) := by
  simp only [pop16, bind_assoc, pure_bind]
  exact Op.Makes.readCell h hu (Op.Makes.read h (Op.Makes.update (Op.Makes.read ((h.afterRead _).setSp _)
    (Op.Makes.update (hf _ _ _ ((((h.afterRead _).setSp _).afterRead _).setSp _))))))

end Makes

/-- A shape that stops of itself, whatever its accesses: an illegal opcode, or HALT and STOP under their fault parameter. -/
def Shape.stops (s : State) : Shape → Prop
  | .illegal _ => True
  | .halt _ => s.ime = false ∧ pendingOf s.ie s.ifr ≠ 0#5 ∧ s.haltBugPolicy = .fault
  | .stop _ => s.stopPolicy = .fault
  | _ => False

/-- Every meaning that does not stop of itself makes its list of accesses. -/
theorem shape_makes (x : Shape) (s : State) (hx : ¬x.stops s) : x.op.Makes s s (x.accesses s) := by
  have h := State.Sees.refl s
  have reg : ∀ r : Reg8, s.unset.reg r = s.unset.cell (regCell r) := fun r => by cases r <;> rfl
  have pair : ∀ p : Reg16, s.unset.pair p = s.unset.cell (pairCell p) := fun p => by cases p <;> rfl
  have nil : ∀ {y : Shape}, Shape.accesses s y = Shape.accesses s y ++ [] := fun {y} => (List.append_nil _).symm
  cases x
  case ld dst src n =>
    cases dst with
    | reg r =>
      show (writeOpnd _ _ >>= _).Makes s s (opndAccesses s src)
      rw [← List.append_nil (opndAccesses s src)]
      simp only [writeOpnd, bind_assoc]
      exact Op.Makes.readOpnd (Op.Makes.update (.pure ((State.Sees.refl _).setReg _ _)))
    | indHl =>
      cases src with
      | reg r =>
        simp only [Shape.op, ldOp, writeOpnd, readOpnd, bind_assoc]
        exact Op.Makes.readCell h rfl (Op.Makes.readCell h (reg r) (Op.Makes.write h (.pure (.refl _))))
      | indHl =>
        simp only [Shape.op, ldOp, writeOpnd, readOpnd, bind_assoc]
        exact Op.Makes.readCell h rfl (Op.Makes.readCell h rfl
          (Op.Makes.read h (Op.Makes.write (.refl _) (.pure (.refl _)))))
  case ldImm dst v n =>
    cases dst with
    | reg r => exact Op.Makes.update (.pure (h.setReg _ _))
    | indHl =>
      simp only [Shape.op, ldImmOp, writeOpnd, bind_assoc, pure_bind]
      exact Op.Makes.readCell h rfl (Op.Makes.write h (.pure (.refl _)))
  case loadA m n =>
    exact Op.Makes.addr (Op.Makes.read h (Op.Makes.update (Op.Makes.update
      (.pure (((State.Sees.refl _).setReg _ _).afterAccess m _)))))
  case storeA m n =>
    exact Op.Makes.addr (Op.Makes.readCell h rfl (Op.Makes.write h (Op.Makes.update
      (.pure ((State.Sees.refl _).afterAccess m _)))))
  case ldRp p v n => exact Op.Makes.update (.pure (h.setPair _ _))
  case storeSp a n =>
    simp only [Shape.op, storeSpOp, memWrite16, bind_assoc]
    exact Op.Makes.readCell h rfl (Op.Makes.write h (Op.Makes.write (.refl _) (.pure (.refl _))))
  case ldSpHl n => exact Op.Makes.readCell h rfl (Op.Makes.update (.pure (h.setSp _)))
  case push p n =>
    rw [nil]
    exact Op.Makes.readCell h (pair _) (Op.Makes.push h rfl fun _ _ ht => .pure ht)
  case pop p n =>
    rw [nil]
    exact Op.Makes.pop h rfl fun _ _ _ ht => Op.Makes.update (.pure (ht.setPair _ _))
  case ldHlSp e n =>
    exact Op.Makes.readCell h rfl (Op.Makes.update (Op.Makes.setFlags (.pure ((h.setPair .hl _).setF _))))
  case alu op src n =>
    refine Op.Makes.carry h rfl fun c _ => Op.Makes.readSrc (Op.Makes.readCell (.refl _) rfl ?_)
    cases op <;>
      first
      | exact Op.Makes.setFlags (.pure ((State.Sees.refl _).setF _))
      | exact Op.Makes.update (Op.Makes.setFlags (.pure (((State.Sees.refl _).setReg .a _).setF _)))
  case inc o n =>
    exact Op.Makes.modify fun t w ht hf => Op.Makes.keepFlags (by simp) ht hf fun v => .pure (ht.setF v)
  case dec o n =>
    exact Op.Makes.modify fun t w ht hf => Op.Makes.keepFlags (by simp) ht hf fun v => .pure (ht.setF v)
  case daa n =>
    exact Op.Makes.readCell h rfl (Op.Makes.readCellThen h rfl fun hf => Op.Makes.update
      (Op.Makes.knownFlags hf fun _ => .pure ((h.setReg .a _).setF _)))
  case cpl n =>
    exact Op.Makes.readCell h rfl (Op.Makes.update
      (Op.Makes.keepFlags (by simp) (h.setReg .a _) rfl fun _ => .pure ((h.setReg .a _).setF _)))
  case scf n => exact Op.Makes.keepFlags (by simp) h rfl fun _ => .pure (h.setF _)
  case ccf n => exact Op.Makes.readCellThen h rfl fun hf => Op.Makes.knownFlags hf fun _ => .pure (h.setF _)
  case incRp p n => exact Op.Makes.readCell h (pair _) (Op.Makes.update (.pure (h.setPair _ _)))
  case decRp p n => exact Op.Makes.readCell h (pair _) (Op.Makes.update (.pure (h.setPair _ _)))
  case addHl p n =>
    exact Op.Makes.readCell h (pair _) (Op.Makes.readCell h rfl
      (Op.Makes.keepFlags (by simp) h rfl fun _ => Op.Makes.update (.pure ((h.setF _).setPair _ _))))
  case addSp e n =>
    exact Op.Makes.readCell h rfl (Op.Makes.setFlags (Op.Makes.update (.pure ((h.setF _).setPair .sp _))))
  case rotA op n =>
    exact Op.Makes.carry h rfl fun c _ => Op.Makes.readCell h rfl
      (Op.Makes.update (Op.Makes.setFlags (.pure ((h.setReg .a _).setF _))))
  case rot op o n =>
    show (rotOp op o n).Makes s s (carryCell (rotUsesCarry op) ++
      changeAccesses s (rotate8 op (s.opnd o) (rotUsesCarry op && flagC s.flags)).1 o)
    rw [← List.append_nil (changeAccesses s _ o)]
    refine Op.Makes.carry h rfl fun c hc => ?_
    rw [← hc]
    exact Op.Makes.modify (g := fun v => (rotate8 op v c).1) fun t w ht _ => Op.Makes.setFlags (.pure (ht.setF _))
  case bit b o n =>
    exact Op.Makes.readOpnd (Op.Makes.keepFlags (by simp) (.refl _) rfl fun _ => .pure ((State.Sees.refl _).setF _))
  case res b o n =>
    rw [nil]
    exact Op.Makes.modify fun t w ht _ => .pure ht
  case set b o n =>
    rw [nil]
    exact Op.Makes.modify fun t w ht _ => .pure ht
  case jp a n => exact Op.Makes.update (.pure (h.setPc _))
  case jpCc k a x y =>
    refine Op.Makes.readCell h rfl ?_
    split
    · exact Op.Makes.update (.pure (h.setPc _))
    · exact .pure h
  case jpHl n => exact Op.Makes.readCell h rfl (Op.Makes.update (.pure (h.setPc _)))
  case jr e n => exact Op.Makes.state (Op.Makes.update (.pure (h.setPc _)))
  case jrCc k e x y =>
    refine Op.Makes.readCell h rfl ?_
    split
    · exact Op.Makes.state (Op.Makes.update (.pure (h.setPc _)))
    · exact .pure h
  case call a n =>
    rw [nil]
    simp only [Shape.op, callOp, callTo, bind_assoc]
    exact Op.Makes.state (Op.Makes.push h rfl fun _ _ ht => Op.Makes.update (.pure (ht.setPc _)))
  case rst a n =>
    rw [nil]
    simp only [Shape.op, rstOp, callTo, bind_assoc]
    exact Op.Makes.state (Op.Makes.push h rfl fun _ _ ht => Op.Makes.update (.pure (ht.setPc _)))
  case callCc k a x y =>
    simp only [Shape.op, callCcOp, callTo, bind_assoc]
    refine Op.Makes.readCell h rfl ?_
    by_cases hk : condHolds k s.flags
    · rw [if_pos hk, if_pos hk, ← List.append_nil (pushAccesses s s.pc)]
      exact Op.Makes.state (Op.Makes.push h rfl fun _ _ ht => Op.Makes.update (.pure (ht.setPc _)))
    · rw [if_neg hk, if_neg hk]
      exact .pure h
  case ret n =>
    rw [nil]
    simp only [Shape.op, retOp, retTo, bind_assoc]
    exact Op.Makes.pop h rfl fun _ _ _ ht => Op.Makes.update (.pure (ht.setPc _))
  case retCc k x y =>
    simp only [Shape.op, retCcOp, retTo, bind_assoc]
    refine Op.Makes.readCell h rfl ?_
    by_cases hk : condHolds k s.flags
    · rw [if_pos hk, if_pos hk, ← List.append_nil (popAccesses s)]
      exact Op.Makes.pop h rfl fun _ _ _ ht => Op.Makes.update (.pure (ht.setPc _))
    · rw [if_neg hk, if_neg hk]
      exact .pure h
  case reti n =>
    rw [nil]
    simp only [Shape.op, retiOp, returnFromInterrupt, bind_assoc]
    exact Op.Makes.pop h rfl fun _ _ _ ht => Op.Makes.update (Op.Makes.update
      (.pure ⟨ht.bus, ht.ifr, ht.ie, ht.stepPc, ht.unsetIfr, ht.unsetIe⟩))
  case nop n => exact .pure h
  case halt n =>
    refine Op.Makes.state ?_
    simp only [Shape.accesses]
    by_cases hi : s.ime = true
    · rw [if_pos hi, if_pos hi]
      exact Op.Makes.update (.pure ⟨rfl, rfl, rfl, rfl, rfl, rfl⟩)
    · rw [if_neg hi, if_neg hi]
      simp only [readPending, bind_assoc, pure_bind]
      refine Op.Makes.readCell h rfl (Op.Makes.readCell h rfl ?_)
      by_cases hp : pendingOf s.ie s.ifr = 0#5
      · rw [if_pos hp]
        exact Op.Makes.update (.pure ⟨rfl, rfl, rfl, rfl, rfl, rfl⟩)
      · rw [if_neg hp]
        cases hq : s.haltBugPolicy with
        | fault => exact absurd ⟨by simpa using hi, hp, hq⟩ hx
        | reproduce => exact Op.Makes.update (.pure ⟨rfl, rfl, rfl, rfl, rfl, rfl⟩)
  case stop n =>
    refine Op.Makes.state ?_
    cases hq : s.stopPolicy with
    | fault => exact absurd hq hx
    | waitJoypad => exact Op.Makes.update (.pure ⟨rfl, rfl, rfl, rfl, rfl, rfl⟩)
  case di n => exact Op.Makes.update (.pure ⟨rfl, rfl, rfl, rfl, rfl, rfl⟩)
  case ei n => exact Op.Makes.update (.pure ⟨rfl, rfl, rfl, rfl, rfl, rfl⟩)
  case illegal opcode => exact absurd trivial hx

/-- A meaning faults where its list of accesses does, with that fault. -/
theorem exec_walk_error {i : Instr} {s : State} {f : Fault} (hw : s.walk (accesses i s) = .error f) :
    exec i s = .fault f := by
  rw [exec_shape, runOp_fault_iff]
  rw [accesses_shape] at hw
  by_cases hx : (shapeOf i).stops s
  · cases hs : shapeOf i with
    | illegal op => simp [hs, Shape.accesses, State.walk] at hw
    | stop n => simp [hs, Shape.accesses, State.walk] at hw
    | halt n =>
      rw [hs] at hw hx
      simp only [Shape.accesses, hx.1] at hw
      have hm : (readPending >>= fun p : BitVec 5 => (pure p : Op _)).Makes s s [.cell .ie, .cell .ifr] := by
        simp only [readPending, bind_assoc, pure_bind]
        exact Op.Makes.readCell (.refl s) rfl (Op.Makes.readCell (.refl s) rfl (.pure (.refl s)))
      unfold Op.Makes at hm
      simp only [Bool.false_eq_true, if_false] at hw
      rw [hw] at hm
      obtain ⟨t, ht⟩ := hm
      rw [bind_pure] at ht
      refine ⟨t, ?_⟩
      show (Op.state >>= _) s = _
      rw [Op.bind_of_ok (show Op.state s = .ok s s from rfl)]
      rw [if_neg (by simp [hx.1])]
      exact Op.bind_of_error ht _
    | _ => rw [hs] at hx; exact hx.elim
  · have hm := shape_makes (shapeOf i) s hx
    unfold Op.Makes at hm
    rw [hw] at hm
    exact hm

/-- Where the list ends, a meaning that does not stop of itself answers a next state with the bus, IF and IE as the list left
them. -/
theorem exec_walk_ok {i : Instr} {s w : State} (hx : ¬(shapeOf i).stops s) (hw : s.walk (accesses i s) = .ok w) :
    ∃ t, exec i s = .next t ∧ t.Sees w := by
  have hm := shape_makes (shapeOf i) s hx
  unfold Op.Makes at hm
  rw [← accesses_shape, hw] at hm
  obtain ⟨n, t, ht, hs⟩ := hm
  exact ⟨t.tick n, by rw [exec_shape, runOp_next_iff]; exact ⟨n, t, ht, rfl⟩,
    ⟨hs.bus, hs.ifr, hs.ie, hs.stepPc, hs.unsetIfr, hs.unsetIe⟩⟩

/-- The instructions that stop of themselves. -/
theorem stops_instr {i : Instr} {s : State} (h : (shapeOf i).stops s) :
    isIllegal i = true ∨
      (i = .halt ∧ s.ime = false ∧ pendingOf s.ie s.ifr ≠ 0#5 ∧ s.haltBugPolicy = .fault) ∨
      ((∃ x, i = .stop x) ∧ s.stopPolicy = .fault) := by
  cases i
  case prefixCb op2 =>
    have : (cbShape op2).stops s := h
    unfold cbShape at this
    split at this <;> exact this.elim
  all_goals first | exact h.elim | exact .inl rfl | exact .inr (.inl ⟨rfl, h⟩) | exact .inr (.inr ⟨⟨_, rfl⟩, h⟩)

end Sys2Proof.Machine
end

