-- ==== Sys2Proof/Laws/Fetch.lean ====
section
/-! SUPPORT. What the fetch of an instruction does, on any bus: the bytes it reads, one after another, are those its length
asks for; it ends with the instruction they decode to, or with the fault of the first read that does not succeed. Then the
step that runs an instruction. -/

namespace Sys2Proof.Machine

/-- Every row of the CB table is two bytes long. -/
theorem length_decodeCb (op2 : Byte) : (decodeCb op2).descriptor.length = 2 := by
  revert op2; refine forall_byte fun n => ?_; fin_cases n <;> rfl

/-- The state with PC elsewhere and the halt quirk used up. -/
def State.movedTo (s : State) (pc : Word) : State := { s with pc := pc, haltBug := false }

@[simp] theorem State.movedTo_pc (s : State) (pc : Word) : (s.movedTo pc).pc = pc := rfl
@[simp] theorem State.movedTo_haltBug (s : State) (pc : Word) : (s.movedTo pc).haltBug = false := rfl
@[simp] theorem State.movedTo_movedTo (s : State) (p q : Word) : (s.movedTo p).movedTo q = s.movedTo q := rfl
@[simp] theorem State.movedTo_byteAt (s : State) (pc a : Word) : (s.movedTo pc).byteAt a = s.byteAt a := rfl
@[simp] theorem State.movedTo_canRead (s : State) (pc a : Word) : (s.movedTo pc).canRead a = s.canRead a := rfl
theorem State.movedTo_afterRead (s : State) (pc a : Word) : (s.movedTo pc).afterRead a = (s.afterRead a).movedTo pc := by
  unfold State.afterRead
  split
  · rfl
  · split <;> rfl

@[simp] theorem State.movedTo_refusal (s : State) (pc a : Word) : (s.movedTo pc).refusal (.read a) = s.refusal (.read a) := by
  simp only [State.refusal, State.movedTo_afterRead]
  rfl

/-- Where PC stands after one byte is fetched: the halt quirk keeps it (20_memory.md R60). -/
def State.nextPc (s : State) : Word := if s.haltBug then s.pc else s.pc + 1#16

/-- The first byte of an instruction. -/
theorem fetch8_first (s : State) :
    fetch8 s = if s.canRead s.pc then .ok (s.byteAt s.pc) ((s.afterRead s.pc).movedTo s.nextPc)
      else .error (s.refusal (.read s.pc)) (s.afterRead s.pc) := by
  split
  · rename_i h
    rw [fetch8_ok_iff]
    refine ⟨h, rfl, ?_⟩
    unfold State.afterFetch State.nextPc State.movedTo
    rw [State.afterRead_haltBug, State.afterRead_pc]
    cases s.haltBug with
    | true => simp
    | false => simp [inc16_eq]
  · rename_i h
    rw [fetch8_error_iff]
    exact ⟨by simpa using h, rfl, rfl⟩

/-- A later byte of an instruction. -/
theorem fetch8_later (s : State) (p : Word) :
    fetch8 (s.movedTo p) = if s.canRead p then .ok (s.byteAt p) ((s.afterRead p).movedTo (p + 1#16))
      else .error (s.refusal (.read p)) ((s.afterRead p).movedTo p) := by
  rw [fetch8_first]
  simp only [State.movedTo_pc, State.movedTo_canRead, State.movedTo_byteAt, State.movedTo_refusal, State.movedTo_afterRead,
    State.movedTo_movedTo]
  rfl

/-- The addresses of the fetch, under the halt quirk or not. -/
theorem State.fetchAddrs_eq (s : State) : s.fetchAddrs = [s.pc, s.nextPc, s.nextPc + 1#16] := by
  unfold State.fetchAddrs State.nextPc
  cases s.haltBug with
  | true => rfl
  | false =>
    have e : s.pc + 1#16 + 1#16 = s.pc + 2#16 := by bv_omega
    simp [e]

/-- The reads of the fetch of an instruction of `n` bytes. -/
def State.fetches (s : State) (n : Nat) : List Access := (s.fetchAddrs.take n).map Access.read

/-- A list of reads, one after another. -/
theorem State.walk_read (s : State) (a : Word) (rest : List Access) :
    s.walk (.read a :: rest) = if s.canRead a then (s.afterRead a).walk rest else .error (s.refusal (.read a)) := rfl

/-- The place of the step is seen by no access. -/
theorem State.begin_afterDoing (s : State) (p : Word) (x : Access) :
    State.afterDoing { s with stepPc := p } x = { s.afterDoing x with stepPc := p } := by
  cases x with
  | cell q => rfl
  | read a =>
    simp only [State.afterDoing, State.afterRead]
    split
    · rfl
    · split <;> rfl
  | write a v =>
    simp only [State.afterDoing, State.storeByte]
    split
    · rfl
    · split <;> rfl

/-- The accesses that succeed from a state succeed from it as a step begins. -/
theorem State.begin_walk {l : List Access} (p : Word) : ∀ {s u : State}, s.walk l = .ok u →
    State.walk { s with stepPc := p } l = .ok { u with stepPc := p } := by
  induction l with
  | nil => intro s u h; cases h; rfl
  | cons x l ih =>
    intro s u h
    have e : State.allows { s with stepPc := p } x = s.allows x := by cases x <;> rfl
    simp only [State.walk, e, State.begin_afterDoing] at h ⊢
    split at h
    · rename_i hx
      rw [if_pos hx]
      exact ih h
    · cases h

/-- The bytes read do not depend on the place of the step. -/
theorem State.begin_bytesAt (p : Word) (l : List Word) : ∀ s : State,
    State.bytesAt { s with stepPc := p } l = s.bytesAt l := by
  induction l with
  | nil => intro s; rfl
  | cons a l ih =>
    intro s
    have e := s.begin_afterDoing p (.read a)
    simp only [State.afterDoing] at e
    simp only [State.bytesAt, e, ih]
    rfl

/-- Where PC stands after an instruction of `n` bytes is fetched. -/
def State.pcAfter (s : State) (n : Nat) : Word := s.nextPc + BitVec.ofNat 16 (n - 1)

/-- THE FETCH, on any bus: it is the reads of the bytes the instruction's length asks for, and then the instruction they
decode to; or the fault of the first read that does not succeed. -/
theorem fetchInstr_walk {s : State} {i : Instr} {rest : List Byte}
    (hd : decode (s.bytesAt s.fetchAddrs) = .ok (i, rest)) :
    match s.walk (s.fetches i.descriptor.length) with
    | .ok u => fetchInstr s = .ok i (u.movedTo (s.pcAfter i.descriptor.length))
    | .error f => ∃ t, fetchInstr s = .error f t := by
  have e1 : s.nextPc + BitVec.ofNat 16 (1 - 1) = s.nextPc := by simp
  have e3 : s.nextPc + 1#16 + 1#16 = s.nextPc + BitVec.ofNat 16 (3 - 1) := by bv_omega
  rw [s.fetchAddrs_eq] at hd
  simp only [State.bytesAt] at hd
  have first : ∀ {f : Byte → Op Instr}, s.canRead s.pc = true →
      (fetch8 >>= f) s = f (s.byteAt s.pc) ((s.afterRead s.pc).movedTo s.nextPc) := by
    intro f h
    exact Op.bind_of_ok (by rw [fetch8_first, if_pos h]) f
  have stop : ∀ {f : Byte → Op Instr}, ¬s.canRead s.pc = true →
      (fetch8 >>= f) s = .error (s.refusal (.read s.pc)) (s.afterRead s.pc) := by
    intro f h
    exact Op.bind_of_error (by rw [fetch8_first, if_neg h]) f
  have next : ∀ {β : Type} {f : Byte → Op β} {u : State} {p : Word}, u.canRead p = true →
      (fetch8 >>= f) (u.movedTo p) = f (u.byteAt p) ((u.afterRead p).movedTo (p + 1#16)) := by
    intro β f u p h
    exact Op.bind_of_ok (by rw [fetch8_later, if_pos h]) f
  have nextStop : ∀ {β : Type} {f : Byte → Op β} {u : State} {p : Word}, ¬u.canRead p = true →
      (fetch8 >>= f) (u.movedTo p) = .error (u.refusal (.read p)) ((u.afterRead p).movedTo p) := by
    intro β f u p h
    exact Op.bind_of_error (by rw [fetch8_later, if_neg h]) f
  have two : ∀ (g : Byte → Instr) (u : State),
      (match u.walk [.read s.nextPc] with
      | .ok w => (fetch8 >>= fun b => pure (g b) : Op Instr) (u.movedTo s.nextPc) =
          .ok (g (u.byteAt s.nextPc)) (w.movedTo (s.nextPc + 1#16))
      | .error f => ∃ t, (fetch8 >>= fun b => pure (g b) : Op Instr) (u.movedTo s.nextPc) = .error f t) := by
    intro g u
    rw [State.walk_read]
    split_ifs with h
    · exact next h
    · exact ⟨_, nextStop h⟩
  rcases (decode_ok_iff _ i rest).mp hd with ⟨op2, hb, hi⟩ | ⟨op, hc, hl, hb, hi⟩ | ⟨op, b1, hc, hl, hb, hi⟩ |
    ⟨op, b1, b2, hc, hl, hb, hi⟩
  · simp only [List.cons.injEq] at hb
    obtain ⟨h0, h1, -⟩ := hb
    subst hi
    rw [length_decodeCb, State.fetches, s.fetchAddrs_eq]
    simp only [List.take, List.map, State.pcAfter]
    rw [State.walk_read]
    unfold fetchInstr
    split_ifs with h
    · rw [first h, if_pos h0]
      have := two decodeCb (s.afterRead s.pc)
      rw [h1] at this
      exact this
    · exact ⟨_, stop h⟩
  · simp only [List.cons.injEq] at hb
    obtain ⟨h0, -⟩ := hb
    subst h0
    subst hi
    rw [length_decodeBase, hl, State.fetches, s.fetchAddrs_eq]
    simp only [List.take, List.map, State.pcAfter]
    rw [State.walk_read]
    unfold fetchInstr
    split_ifs with h
    · rw [first h, if_neg hc, hl]
      simp only [State.walk, e1]
      rfl
    · exact ⟨_, stop h⟩
  · simp only [List.cons.injEq] at hb
    obtain ⟨h0, h1, -⟩ := hb
    subst h0
    subst h1
    subst hi
    rw [length_decodeBase, hl, State.fetches, s.fetchAddrs_eq]
    simp only [List.take, List.map, State.pcAfter]
    rw [State.walk_read]
    unfold fetchInstr
    split_ifs with h
    · rw [first h, if_neg hc, hl]
      exact two (fun b => decodeBase (s.byteAt s.pc) b 0#8) (s.afterRead s.pc)
    · exact ⟨_, stop h⟩
  · simp only [List.cons.injEq] at hb
    obtain ⟨h0, h1, h2, -⟩ := hb
    subst h0
    subst h1
    subst h2
    subst hi
    rw [length_decodeBase, hl, State.fetches, s.fetchAddrs_eq]
    simp only [List.take, List.map, State.pcAfter]
    rw [State.walk_read]
    unfold fetchInstr
    split_ifs with h
    · rw [first h, if_neg hc, hl, State.walk_read]
      by_cases h' : (s.afterRead s.pc).canRead s.nextPc = true
      · rw [if_pos h', State.walk_read]
        by_cases h'' : ((s.afterRead s.pc).afterRead s.nextPc).canRead (s.nextPc + 1#16) = true
        · rw [if_pos h'']
          have : fetch16 ((s.afterRead s.pc).movedTo s.nextPc) =
              .ok (word16 (((s.afterRead s.pc).afterRead s.nextPc).byteAt (s.nextPc + 1#16))
                ((s.afterRead s.pc).byteAt s.nextPc))
                ((((s.afterRead s.pc).afterRead s.nextPc).afterRead (s.nextPc + 1#16)).movedTo
                  (s.nextPc + BitVec.ofNat 16 (3 - 1))) := by
            unfold fetch16
            rw [next h', next h'', e3]
            rfl
          refine (Op.bind_of_ok this
            fun n => (pure (decodeBase (s.byteAt s.pc) (loByte n) (hiByte n)) : Op Instr)).trans ?_
          rw [loByte_word16, hiByte_word16]
          rfl
        · rw [if_neg h'']
          refine ⟨_, Op.bind_of_error (t := (((s.afterRead s.pc).afterRead s.nextPc).afterRead (s.nextPc + 1#16)).movedTo
            (s.nextPc + 1#16)) ?_ _⟩
          unfold fetch16
          rw [next h', nextStop h'']
      · rw [if_neg h']
        refine ⟨_, Op.bind_of_error (t := ((s.afterRead s.pc).afterRead s.nextPc).movedTo s.nextPc) ?_ _⟩
        unfold fetch16
        rw [nextStop h']
    · exact ⟨_, stop h⟩

/-- The checks let the instruction run where `State.Runs` says so. -/
theorem boundary_runs {s : State} (h : s.Runs) : boundary s.begin = .ok .instruction s.begin := by
  obtain ⟨h0, h1, h2, h3⟩ := h
  simp only [boundary, Op.bind_ok_iff, leaveStop_ok_iff]
  refine ⟨true, _, .inl ⟨h1, rfl, rfl⟩, ?_⟩
  rw [if_pos rfl, Op.bind_ok_iff]
  refine ⟨true, _, (leaveHalt_ok_iff _ _ _).mpr (.inl ⟨h2, rfl, rfl⟩), ?_⟩
  rw [if_pos rfl, Op.bind_ok_iff]
  cases hi : s.ime
  · exact ⟨false, _, (wantsService_ok_iff _ _ _).mpr ⟨rfl, .inl ⟨hi, rfl⟩⟩, rfl⟩
  · obtain ⟨a, b, c⟩ := h3 hi
    have hp : pendingOf s.begin.ie s.begin.ifr = 0#5 := c
    exact ⟨false, _, (wantsService_ok_iff _ _ _).mpr ⟨rfl, .inr ⟨hi, a, b, by simp [hp]⟩⟩, rfl⟩

/-- Where an instruction is to run, the step is the fetch and the instruction. -/
theorem step_runs {s : State} (h : s.Runs) : step s = execOne exec s.begin := by
  rw [step_body h.noFault, stepBody, boundary_runs h]

/-- The core leaves the stop check, woken or not stopped at all. -/
theorem leaveStop_leaves {s : State} (hs : s.stopped = true → s.unset.ifr = false ∧ s.ifr.getLsbD 4 = true) :
    leaveStop s = .ok true { s with stopped := false } := by
  rw [leaveStop_ok_iff]
  cases hst : s.stopped
  · exact .inl ⟨rfl, rfl, by rw [← hst]⟩
  · obtain ⟨h1, h2⟩ := hs hst
    exact .inr ⟨rfl, h1, .inl ⟨h2, rfl, rfl⟩⟩

/-- Past the stop check, the halt and the interrupt check stop where the read of the pending sources does. -/
theorem boundary_pending {s : State} (hs : s.stopped = true → s.unset.ifr = false ∧ s.ifr.getLsbD 4 = true)
    (hh : s.halted = true ∨ s.ime = true) {f : Fault}
    (hp : readPending { s with stopped := false } = .error f { s with stopped := false }) :
    boundary s = .error f { s with stopped := false } := by
  unfold boundary
  rw [Op.bind_of_ok (leaveStop_leaves hs), if_pos rfl]
  by_cases h : s.halted = true
  · refine Op.bind_of_error ?_ _
    unfold leaveHalt
    rw [Op.bind_of_ok (show Op.state { s with stopped := false } = .ok _ _ from rfl), if_pos h]
    exact Op.bind_of_error hp _
  · rw [Op.bind_of_ok ((leaveHalt_ok_iff _ _ _).mpr (.inl ⟨by simpa using h, rfl, rfl⟩)), if_pos rfl]
    refine Op.bind_of_error ?_ _
    unfold wantsService
    rw [Op.bind_of_ok (show Op.state { s with stopped := false } = .ok _ _ from rfl), if_pos (by simpa [h] using hh)]
    exact Op.bind_of_error hp _

/-- The checks choose the service where ime is set and a source is requested. -/
theorem boundary_service {s : State} (him : s.ime = true) (hie : s.unset.ie = false) (hif : s.unset.ifr = false)
    (hs : s.stopped = true → s.ifr.getLsbD 4 = true) (hp : pendingOf s.ie s.ifr ≠ 0#5) :
    boundary s = .ok .service s.awake := by
  have h2 : leaveHalt { s with stopped := false } = .ok true s.awake := by
    rw [leaveHalt_ok_iff]
    cases hst : s.halted
    · refine .inl ⟨rfl, rfl, ?_⟩
      unfold State.awake
      rw [← hst]
    · exact .inr ⟨rfl, hie, hif, .inl ⟨hp, rfl, rfl⟩⟩
  have h3 : wantsService s.awake = .ok true s.awake := by
    refine (wantsService_ok_iff _ _ _).mpr ⟨rfl, .inr ⟨him, hie, hif, ?_⟩⟩
    have : pendingOf s.awake.ie s.awake.ifr ≠ 0#5 := hp
    simp [this]
  unfold boundary
  rw [Op.bind_of_ok (leaveStop_leaves fun h => ⟨hif, hs h⟩), if_pos rfl, Op.bind_of_ok h2, if_pos rfl, Op.bind_of_ok h3]
  rfl

/-- The state in which a service pushes (60_exceptions.md R240). -/
def State.serving (s : State) : State :=
  { s with ime := false, eiPending := false, haltBug := false,
           ifr := clearIfBit s.ifr (lowestSource (pendingOf s.ie s.ifr)) }

@[simp] theorem State.serving_bus (s : State) : s.serving.bus = s.bus := rfl
@[simp] theorem State.serving_unset (s : State) : s.serving.unset = s.unset := rfl
@[simp] theorem State.serving_stepPc (s : State) : s.serving.stepPc = s.stepPc := rfl
@[simp] theorem State.serving_sp (s : State) : s.serving.sp = s.sp := rfl

/-- A service makes the accesses of its push. -/
theorem service_makes {s : State} (hie : s.unset.ie = false) (hif : s.unset.ifr = false) :
    (service >>= fun n => (pure n : Op Nat)).Makes s s.serving (pushAccesses s (serviceReturn s)) := by
  rw [← List.append_nil (pushAccesses s _)]
  unfold Op.Makes service
  simp only [bind_assoc, pure_bind]
  rw [Op.bind_of_ok ((readPending_ok_iff s s _).mpr ⟨hie, hif, rfl, rfl⟩),
    Op.bind_of_ok (show Op.state s = .ok s s from rfl), Op.bind_of_ok (show Op.update _ s = .ok () _ from rfl)]
  exact Op.Makes.push (.refl s.serving) rfl fun t w ht => Op.Makes.update (.pure (ht.setPc _))

/-- A service faults where its push does. -/
theorem service_walk_error {s : State} (hie : s.unset.ie = false) (hif : s.unset.ifr = false) {f : Fault}
    (h : s.serving.walk (pushAccesses s (serviceReturn s)) = .error f) : ∃ t, service s = .error f t := by
  have := service_makes hie hif
  unfold Op.Makes at this
  rw [h, bind_pure] at this
  exact this

end Sys2Proof.Machine
end

