-- ==== Sys2Proof/Laws/Whole.lean ====
section
/-! SUPPORT. The whole step, said once: what an invariant of the state and a property of the faults must allow so that every
step keeps the one and raises only the other. -/

namespace Sys2Proof.Machine

/-- No arm of `exec` refuses. -/
theorem exec_not_refused (i : Instr) (s : State) (r : Refusal) : exec i s ≠ .refused r := by
  rw [exec_shape]
  exact runOp_not_refused _ _ _

/-- No step refuses. -/
theorem step_not_refused (s : State) (r : Refusal) : step s ≠ .refused r := by
  cases hf : s.fault with
  | some f => simp [step_latched hf]
  | none =>
    rw [step_body hf]
    unfold stepBody
    split
    · simp
    · exact runOp_not_refused _ _ _
    · unfold execOne
      split
      · rename_i i t _
        cases he : exec i t with
        | next w => simp [eiEpilogue]
        | fault f => simp [eiEpilogue]
        | refused r => exact absurd he (exec_not_refused _ _ _)
      · simp
    · simp

/-- Beside the meanings, an invariant must allow what the sequencer itself does: the waking, the fetch and the service. -/
structure AllowsStep (I : State → Prop) (P : Fault → Prop) : Prop extends AllowsAll I P where
  leaveStop : ∀ s, I s → I { s with stopped := false }
  leaveHalt : ∀ s, I s → I { s with halted := false }
  usedQuirk : ∀ s, I s → I { s with haltBug := false }
  serve : ∀ s i, I s → I { s with ime := false, eiPending := false, ifr := clearIfBit s.ifr i, haltBug := false }

section Guards

variable {I : State → Prop} {P : Fault → Prop}

theorem fetch8_guards (h : AllowsStep I P) : fetch8.Guards I P := by
  refine Op.Guards.state.bind fun _ => (memRead8_guards h.toAllows _).bind fun _ => (Op.Guards.update fun s hs => ?_).bind
    fun _ => Op.Guards.pure _
  unfold State.afterFetch
  split
  · exact h.usedQuirk s hs
  · exact h.pc s _ hs

theorem fetchInstr_guards (h : AllowsStep I P) : fetchInstr.Guards I P := by
  refine (fetch8_guards h).bind fun op => ?_
  split
  · exact (fetch8_guards h).bind fun _ => Op.Guards.pure _
  · split
    · exact Op.Guards.pure _
    · exact (fetch8_guards h).bind fun _ => Op.Guards.pure _
    · exact ((fetch8_guards h).bind fun _ => (fetch8_guards h).bind fun _ => Op.Guards.pure _).bind fun _ => Op.Guards.pure _

theorem boundary_guards (h : AllowsStep I P) : boundary.Guards I P := by
  have ha := h.toAllows
  have h1 : leaveStop.Guards I P := by
    refine Op.Guards.state.bind fun s => ?_
    split
    · refine (readIf_guards ha).bind fun _ => ?_
      split
      · exact (Op.Guards.update h.leaveStop).bind fun _ => Op.Guards.pure _
      · exact Op.Guards.pure _
    · exact Op.Guards.pure _
  have h2 : leaveHalt.Guards I P := by
    refine Op.Guards.state.bind fun s => ?_
    split
    · refine (readPending_guards ha).bind fun _ => ?_
      split
      · exact Op.Guards.pure _
      · exact (Op.Guards.update h.leaveHalt).bind fun _ => Op.Guards.pure _
    · exact Op.Guards.pure _
  have h3 : wantsService.Guards I P := by
    refine Op.Guards.state.bind fun s => ?_
    split
    · exact (readPending_guards ha).bind fun _ => Op.Guards.pure _
    · exact Op.Guards.pure _
  refine h1.bind fun r => ?_
  split
  · refine h2.bind fun w => ?_
    split
    · exact h3.bind fun _ => Op.Guards.pure _
    · exact Op.Guards.pure _
  · exact Op.Guards.pure _

theorem service_guards (h : AllowsStep I P) : service.Guards I P := by
  have ha := h.toAllows
  exact (readPending_guards ha).bind fun p => Op.Guards.state.bind fun s =>
    (Op.Guards.update fun t ht => h.serve t _ ht).bind fun _ => (push16_guards ha _).bind fun _ =>
      (writePc_guards ha _).bind fun _ => Op.Guards.pure _

/-- Every step from `I` ends in `J`, which the count and the delayed enable must allow, or raises a fault that `P` allows, the
illegal opcode that may be fetched included. With `J` always true this is a claim about the faults alone. -/
theorem step_guards (h : AllowsStep I P) {J : State → Prop} (ht : ∀ u n, I u → J (u.tick n))
    (he : ∀ u, J u → J { u with ime := true, eiPending := false }) {s : State} (hf : s.fault = none) (hs : I s.begin)
    (hill : ∀ i u opcode, fetchInstr s.begin.awake = .ok i u → shapeOf i = .illegal opcode →
      ∀ v, I v → P (.decodeFault v.stepPc opcode v.cycles v.bus)) :
    (∀ t, step s = .next t → J t) ∧ (∀ f, step s = .fault f → P f) := by
  rw [step_body hf]
  unfold stepBody
  cases hb : boundary s.begin with
  | error f u =>
    refine ⟨by simp, fun f' hf' => ?_⟩
    cases hf'
    exact (boundary_guards h s.begin hs).2 _ _ hb
  | ok b u =>
    have hu := (boundary_guards h s.begin hs).1 _ _ hb
    cases b with
    | idle => exact ⟨fun t ht => by cases ht; exact ht _ _ hu, by simp⟩
    | service => exact (service_guards h).runOp ht hu
    | instruction =>
      have hw := (boundary_busy hb (by simp)).1
      simp only [execOne]
      cases hfi : fetchInstr u with
      | error f v =>
        refine ⟨by simp, fun f' hf' => ?_⟩
        cases hf'
        exact (fetchInstr_guards h u hu).2 _ _ hfi
      | ok i v =>
        have hv := (fetchInstr_guards h u hu).1 _ _ hfi
        rw [hw] at hfi
        have hg := (shape_guards h.toAllowsAll (shapeOf i) fun o ho w hw => hill i v o hfi ho w hw).runOp ht hv
        rw [← exec_shape] at hg
        show (∀ t, eiEpilogue u.eiPending (exec i v) = .next t → J t) ∧ ∀ f, eiEpilogue u.eiPending (exec i v) = .fault f → P f
        generalize exec i v = r at hg ⊢
        cases r with
        | next w =>
          refine ⟨fun t ht => ?_, fun f' hf' => by simp [eiEpilogue] at hf'⟩
          have hiw := hg.1 w rfl
          have : w.eiEpilogue u.eiPending = t := by simpa [eiEpilogue] using ht
          rw [← this]
          unfold State.eiEpilogue
          split
          · exact he w hiw
          · exact hiw
        | fault f =>
          refine ⟨fun t ht => by simp [eiEpilogue] at ht, fun f' hf' => ?_⟩
          have : f = f' := by simpa [eiEpilogue] using hf'
          exact this ▸ hg.2 f rfl
        | refused r => exact ⟨fun t ht => by simp [eiEpilogue] at ht, fun f' hf' => by simp [eiEpilogue] at hf'⟩

end Guards

/-- The opcode of an illegal shape. -/
def Shape.illegalOpcode : Shape → Option Byte
  | .illegal op => some op
  | _ => none

/-- The base table is illegal exactly at the eleven opcodes (30_encoding.md R97). -/
theorem decodeBase_illegalOpcode (op b1 b2 : Byte) :
    (shapeOf (decodeBase op b1 b2)).illegalOpcode = if illegalOpcodes.contains op then some op else none := by
  unfold decodeBase
  generalize word16 b2 b1 = n
  revert op
  refine forall_byte fun k => ?_
  fin_cases k <;>
    first
    | rfl
    | (show (cbShape b1).illegalOpcode = none; unfold cbShape; cases field2 b1 6 <;> rfl)

/-- No row of the CB table is illegal (30_encoding.md R98). -/
theorem decodeCb_legal (op2 opcode : Byte) : shapeOf (decodeCb op2) ≠ .illegal opcode := by
  rw [shapeOf_decodeCb]
  unfold cbShape
  split <;> simp

end Sys2Proof.Machine
end

