-- ==== Sys2Proof/Tests/Slice0.lean ====
section
/-! SUPPORT. The model's own tests. The expected results are the words of the grids of 30_encoding.md, the vectors of
95_test_vectors.md (each named by its id) and, in the last part, for every obligation with hypotheses one concrete input that
meets them all, at a boundary value for each clause. -/

namespace Sys2Proof.Machine

/-! ### Well-formedness -/

/-- The one ill-formed term: the CB byte as a row of its own; the row it selects is well formed. -/
theorem test_prefix_cb_is_refused : Instr.wellFormed (.prefixCb 0x7C#8) = false := by decide

theorem test_bit7_h_is_well_formed : Instr.wellFormed .bit7H = true := by decide

/-! ### Decoding: words written out from the grids of 30_encoding.md R112, R113, and read back -/

theorem test_decode_nop : decode [0b00000000#8] = .ok (.nop, []) := rfl

/-- 01 yyy zzz with y = B, z = (HL). -/
theorem test_decode_ld_b_ind_hl : decode [0b01000110#8] = .ok (.ldBIndHl, []) := rfl

/-- 00 yyy 110 with y = A, then the immediate. -/
theorem test_decode_ld_a_d8 : decode [0b00111110#8, 0x5A#8] = .ok (.ldAD8 0x5A#8, []) := rfl

/-- 00 pp0 001 with p = SP, then the word, low byte first. -/
theorem test_decode_ld_sp_d16 : decode [0b00110001#8, 0x34#8, 0x12#8, 0xFF#8] = .ok (.ldSpD16 0x1234#16, [0xFF#8]) := rfl

/-- 11 pp0 101 with p = AF. -/
theorem test_decode_push_af : decode [0b11110101#8] = .ok (.pushAf, []) := rfl

/-- 10 yyy zzz with y = SBC, z = L. -/
theorem test_decode_sbc_a_l : decode [0b10011101#8] = .ok (.sbcAL, []) := rfl

/-- 11 yyy 110 with y = CP. -/
theorem test_decode_cp_d8 : decode [0b11111110#8, 0xFF#8] = .ok (.cpD8 0xFF#8, []) := rfl

/-- 00 pp1 001 with p = HL. -/
theorem test_decode_add_hl_hl : decode [0b00101001#8] = .ok (.addHlHl, []) := rfl

/-- 001 cc 000 with cc = C. -/
theorem test_decode_jr_c : decode [0b00111000#8, 0x80#8] = .ok (.jrCE8 0x80#8, []) := rfl

/-- 11 yyy 111 with y = 7. -/
theorem test_decode_rst_38 : decode [0b11111111#8] = .ok (.rst38h, []) := rfl

/-- CB, then 00 110 001: SWAP C. -/
theorem test_decode_swap_c : decode [0xCB#8, 0b00110001#8] = .ok (.swapC, []) := rfl

/-- CB, then 10 101 110: RES 5,(HL). -/
theorem test_decode_res_5_ind_hl : decode [0xCB#8, 0b10101110#8] = .ok (.res5IndHl, []) := rfl

/-- STOP is two bytes long, its second byte ignored. -/
theorem test_decode_stop : decode [0x10#8, 0xA5#8] = .ok (.stop 0xA5#8, []) := rfl

/-- An instruction cut short is refused by name. -/
theorem test_decode_truncated : decode [0xCD#8, 0x00#8] = .error .truncated := rfl

/-- §8 scenario 6: the two tables are told apart. -/
theorem test_two_tables : decodeTableWord 8 0x7C = some .ldAH ∧ decodeTableWord 16 0xCB7C = some .bit7H := by decide

theorem test_encode_ld_ind_a16_sp : encode (.ldIndA16Sp 0xC100#16) = [0x08#8, 0x00#8, 0xC1#8] := by decide

/-! ### The vectors of 95_test_vectors.md that are one step long -/

/-- The start state of 95_test_vectors.md section 0. -/
def start : State :=
  { State.reset with
    a := 0x00#8, f := 0x00#8, b := 0x00#8, c := 0x00#8, d := 0x00#8, e := 0x00#8, h := 0x00#8, l := 0x00#8
    sp := 0xFFFE#16, pc := 0xC000#16, ifr := 0#5, ie := 0x00#8 }

/-- RAM_BUS with these bytes, which refuses nothing. -/
def ram (m : Memory) : Bus := .ram { mem := m, readFails := [], writeFails := [] }

/-- One step with the bytes at PC ends in a next state of which `p` holds. -/
def ran (bytes : List Byte) (s : State) (p : State → Bool) : Bool :=
  match step (s.placeBytes s.pc bytes) with
  | .next t => p t
  | .fault _ => false
  | .refused _ => false

/-- One step with the bytes at PC ends in a fault of which `p` holds. -/
def faulted (bytes : List Byte) (s : State) (p : Fault → Bool) : Bool :=
  match step (s.placeBytes s.pc bytes) with
  | .next _ => false
  | .fault f => p f
  | .refused _ => false

/-- V41.01 (R120): register to register. -/
theorem test_V41_01 :
  ran [0x41#8] { start with c := 0x5A#8 } fun t =>
    t.f = 0x00#8 ∧ t.b = 0x5A#8 ∧ t.pc = 0xC001#16 ∧ t.cycles = 4#64 := by decide

/-- V41.04 (R122): load from (HL). -/
theorem test_V41_04 :
  ran [0x7E#8] (({ start with h := 0xC1#8, l := 0x00#8 }).place 0xC100#16 0x99#8) fun t =>
    t.a = 0x99#8 ∧ t.f = 0x00#8 ∧ t.pc = 0xC001#16 ∧ t.cycles = 8#64 := by decide

/-- V41.05 (R122): H reloaded from (HL): address formed before the write. -/
theorem test_V41_05 :
  ran [0x66#8] (({ start with h := 0xC1#8, l := 0x00#8 }).place 0xC100#16 0x12#8) fun t =>
    t.f = 0x00#8 ∧ t.h = 0x12#8 ∧ t.pc = 0xC001#16 ∧ t.cycles = 8#64 := by decide

/-- V41.08 (R124): immediate to (HL). -/
theorem test_V41_08 :
  ran [0x36#8, 0x42#8] { start with h := 0xC1#8, l := 0x00#8 } fun t =>
    t.f = 0x00#8 ∧ t.pc = 0xC002#16 ∧ t.byteAt 0xC100#16 = 0x42#8 ∧ t.cycles = 12#64 := by decide

/-- V41.09 (R125): load via BC. -/
theorem test_V41_09 :
  ran [0x0A#8] (({ start with b := 0xC1#8, c := 0x00#8 }).place 0xC100#16 0x81#8) fun t =>
    t.a = 0x81#8 ∧ t.f = 0x00#8 ∧ t.pc = 0xC001#16 ∧ t.cycles = 8#64 := by decide

/-- V41.12 (R128): store via DE. -/
theorem test_V41_12 :
  ran [0x12#8] { start with d := 0xC1#8, e := 0x00#8, a := 0x22#8 } fun t =>
    t.f = 0x00#8 ∧ t.pc = 0xC001#16 ∧ t.byteAt 0xC100#16 = 0x22#8 ∧ t.cycles = 8#64 := by decide

/-- V41.13 (R129): load direct, little-endian address. -/
theorem test_V41_13 :
  ran [0xFA#8, 0x34#8, 0xC1#8] (start.place 0xC134#16 0x5E#8) fun t =>
    t.a = 0x5E#8 ∧ t.f = 0x00#8 ∧ t.pc = 0xC003#16 ∧ t.cycles = 16#64 := by decide

/-- V41.14 (R130): store direct. -/
theorem test_V41_14 :
  ran [0xEA#8, 0x34#8, 0xC1#8] { start with a := 0x6B#8 } fun t =>
    t.f = 0x00#8 ∧ t.pc = 0xC003#16 ∧ t.byteAt 0xC134#16 = 0x6B#8 ∧ t.cycles = 16#64 := by decide

/-- V41.15 (R131): LDH A,(C) reads IF with bits 7:5 as 1. -/
theorem test_V41_15 :
  ran [0xF2#8] { start with c := 0x0F#8, ifr := 0x05#5 } fun t =>
    t.a = 0xE5#8 ∧ t.f = 0x00#8 ∧ t.pc = 0xC001#16 ∧ t.cycles = 8#64 := by decide

/-- V41.16 (R132): LDH (C),A writes IE. -/
theorem test_V41_16 :
  ran [0xE2#8] { start with c := 0xFF#8, a := 0x1F#8 } fun t =>
    t.f = 0x00#8 ∧ t.pc = 0xC001#16 ∧ t.ie = 0x1F#8 ∧ t.cycles = 8#64 := by decide

/-- V41.17 (R133): LDH A,(a8) from the high page. -/
theorem test_V41_17 :
  ran [0xF0#8, 0x80#8] (start.place 0xFF80#16 0x3A#8) fun t =>
    t.a = 0x3A#8 ∧ t.f = 0x00#8 ∧ t.pc = 0xC002#16 ∧ t.cycles = 12#64 := by decide

/-- V41.18 (R134): LDH (a8),A writes IF, keeps bits 4:0. -/
theorem test_V41_18 :
  ran [0xE0#8, 0x0F#8] { start with a := 0xFF#8 } fun t =>
    t.f = 0x00#8 ∧ t.pc = 0xC002#16 ∧ t.ifr = 0x1F#5 ∧ t.cycles = 12#64 := by decide

/-- V41.19 (R135): LD A,(HL+) with HL wrapping from 0xFFFF, reads IE. -/
theorem test_V41_19 :
  ran [0x2A#8] { start with h := 0xFF#8, l := 0xFF#8, ie := 0x09#8 } fun t =>
    t.a = 0x09#8 ∧ t.f = 0x00#8 ∧ t.h = 0x00#8 ∧ t.l = 0x00#8 ∧ t.pc = 0xC001#16 ∧ t.cycles = 8#64 := by decide

/-- V41.20 (R136): LD A,(HL-). -/
theorem test_V41_20 :
  ran [0x3A#8] (({ start with h := 0xC1#8, l := 0x00#8 }).place 0xC100#16 0x44#8) fun t =>
    t.a = 0x44#8 ∧ t.f = 0x00#8 ∧ t.h = 0xC0#8 ∧ t.l = 0xFF#8 ∧ t.pc = 0xC001#16 ∧ t.cycles = 8#64 := by decide

/-- V41.21 (R137): LD (HL+),A. -/
theorem test_V41_21 :
  ran [0x22#8] { start with h := 0xC1#8, l := 0x00#8, a := 0x55#8 } fun t =>
    t.f = 0x00#8 ∧ t.l = 0x01#8 ∧ t.pc = 0xC001#16 ∧ t.byteAt 0xC100#16 = 0x55#8 ∧ t.cycles = 8#64 := by decide

/-- V41.22 (R138): LD (HL-),A with HL wrapping from 0x0000. -/
theorem test_V41_22 :
  ran [0x32#8] { start with h := 0x00#8, l := 0x00#8, a := 0x66#8 } fun t =>
    t.f = 0x00#8 ∧ t.h = 0xFF#8 ∧ t.l = 0xFF#8 ∧ t.pc = 0xC001#16 ∧ t.byteAt 0x0000#16 = 0x66#8 ∧ t.cycles = 8#64 := by decide

/-- V42.01 (R142): LD BC,d16: pair round trip (B high, C low). -/
theorem test_V42_01 :
  ran [0x01#8, 0x34#8, 0x12#8] start fun t =>
    t.f = 0x00#8 ∧ t.b = 0x12#8 ∧ t.c = 0x34#8 ∧ t.pc = 0xC003#16 ∧ t.cycles = 12#64 := by decide

/-- V42.02 (R142): LD SP,d16. -/
theorem test_V42_02 :
  ran [0x31#8, 0x00#8, 0xD0#8] start fun t =>
    t.f = 0x00#8 ∧ t.sp = 0xD000#16 ∧ t.pc = 0xC003#16 ∧ t.cycles = 12#64 := by decide

/-- V42.03 (R143): LD (a16),SP stores low byte first. -/
theorem test_V42_03 :
  ran [0x08#8, 0x00#8, 0xC1#8] { start with sp := 0xABCD#16 } fun t =>
    t.f = 0x00#8 ∧ t.pc = 0xC003#16 ∧ t.byteAt 0xC100#16 = 0xCD#8 ∧ t.byteAt 0xC101#16 = 0xAB#8 ∧ t.cycles = 20#64 := by decide

/-- V42.04 (R144): LD SP,HL. -/
theorem test_V42_04 :
  ran [0xF9#8] { start with h := 0x12#8, l := 0x34#8 } fun t =>
    t.f = 0x00#8 ∧ t.sp = 0x1234#16 ∧ t.pc = 0xC001#16 ∧ t.cycles = 8#64 := by decide

/-- V42.06 (R145): PUSH AF. -/
theorem test_V42_06 :
  ran [0xF5#8] { start with a := 0x12#8, f := 0xB0#8 } fun t =>
    t.f = 0xB0#8 ∧ t.sp = 0xFFFC#16 ∧ t.pc = 0xC001#16 ∧ t.byteAt 0xFFFC#16 = 0xB0#8 ∧ t.byteAt 0xFFFD#16 = 0x12#8
      ∧ t.cycles = 16#64 := by decide

/-- V42.08 (R147): POP AF clears the low nibble of F. -/
theorem test_V42_08 :
  ran [0xF1#8] ((({ start with sp := 0xFFFC#16 }).place 0xFFFC#16 0xFF#8).place 0xFFFD#16 0x12#8) fun t =>
    t.a = 0x12#8 ∧ t.f = 0xF0#8 ∧ t.sp = 0xFFFE#16 ∧ t.pc = 0xC001#16 ∧ t.cycles = 12#64 := by decide

/-- V42.09 (R146): POP with SP wrapping from 0xFFFF. -/
theorem test_V42_09 :
  ran [0xC1#8] (({ start with sp := 0xFFFF#16, ie := 0x34#8 }).place 0x0000#16 0x12#8) fun t =>
    t.f = 0x00#8 ∧ t.b = 0x12#8 ∧ t.c = 0x34#8 ∧ t.sp = 0x0001#16 ∧ t.pc = 0xC001#16 ∧ t.cycles = 12#64 := by decide

/-- V42.10 (R148): LD HL,SP+e8, carries from the low byte. -/
theorem test_V42_10 :
  ran [0xF8#8, 0x08#8] { start with sp := 0xFFF8#16 } fun t =>
    t.f = 0x30#8 ∧ t.pc = 0xC002#16 ∧ t.cycles = 12#64 := by decide

/-- V42.11 (R148): LD HL,SP+e8, negative displacement, no carry. -/
theorem test_V42_11 :
  ran [0xF8#8, 0xFE#8] { start with sp := 0x0000#16 } fun t =>
    t.f = 0x00#8 ∧ t.h = 0xFF#8 ∧ t.l = 0xFE#8 ∧ t.pc = 0xC002#16 ∧ t.cycles = 12#64 := by decide

/-- V43.01 (R151): ADD A,B to zero with both carries. -/
theorem test_V43_01 :
  ran [0x80#8] { start with a := 0x3A#8, b := 0xC6#8 } fun t =>
    t.a = 0x00#8 ∧ t.f = 0xB0#8 ∧ t.pc = 0xC001#16 ∧ t.cycles = 4#64 := by decide

/-- V43.03 (R151): ADD A,(HL). -/
theorem test_V43_03 :
  ran [0x86#8] (({ start with a := 0x80#8, h := 0xC1#8, l := 0x00#8 }).place 0xC100#16 0x80#8) fun t =>
    t.a = 0x00#8 ∧ t.f = 0x90#8 ∧ t.pc = 0xC001#16 ∧ t.cycles = 8#64 := by decide

/-- V43.04 (R152): ADC A,d8 with carry in. -/
theorem test_V43_04 :
  ran [0xCE#8, 0x0F#8] { start with a := 0xE1#8, f := 0x10#8 } fun t =>
    t.a = 0xF1#8 ∧ t.f = 0x20#8 ∧ t.pc = 0xC002#16 ∧ t.cycles = 8#64 := by decide

/-- V43.05 (R152): ADC A,B, carry in makes 0x100. -/
theorem test_V43_05 :
  ran [0x88#8] { start with a := 0xFF#8, b := 0x00#8, f := 0x10#8 } fun t =>
    t.a = 0x00#8 ∧ t.f = 0xB0#8 ∧ t.pc = 0xC001#16 ∧ t.cycles = 4#64 := by decide

/-- V43.07 (R153): SUB A gives zero. -/
theorem test_V43_07 :
  ran [0x97#8] { start with a := 0x3E#8 } fun t =>
    t.a = 0x00#8 ∧ t.f = 0xC0#8 ∧ t.pc = 0xC001#16 ∧ t.cycles = 4#64 := by decide

/-- V43.09 (R154): SBC A,d8 with borrow in. -/
theorem test_V43_09 :
  ran [0xDE#8, 0x2A#8] { start with a := 0x3B#8, f := 0x10#8 } fun t =>
    t.a = 0x10#8 ∧ t.f = 0x40#8 ∧ t.pc = 0xC002#16 ∧ t.cycles = 8#64 := by decide

/-- V43.10 (R154): SBC A,B with both borrows. -/
theorem test_V43_10 :
  ran [0x98#8] { start with a := 0x3B#8, b := 0x4F#8, f := 0x10#8 } fun t =>
    t.a = 0xEB#8 ∧ t.f = 0x70#8 ∧ t.pc = 0xC001#16 ∧ t.cycles = 4#64 := by decide

/-- V43.12 (R155): AND d8 sets H. -/
theorem test_V43_12 :
  ran [0xE6#8, 0x3F#8] { start with a := 0x5A#8 } fun t =>
    t.a = 0x1A#8 ∧ t.f = 0x20#8 ∧ t.pc = 0xC002#16 ∧ t.cycles = 8#64 := by decide

/-- V43.14 (R156): XOR A clears A. -/
theorem test_V43_14 :
  ran [0xAF#8] { start with a := 0x5A#8, f := 0x70#8 } fun t =>
    t.a = 0x00#8 ∧ t.f = 0x80#8 ∧ t.pc = 0xC001#16 ∧ t.cycles = 4#64 := by decide

/-- V43.15 (R157): OR B. -/
theorem test_V43_15 :
  ran [0xB0#8] { start with a := 0x50#8, b := 0x05#8, f := 0x70#8 } fun t =>
    t.a = 0x55#8 ∧ t.f = 0x00#8 ∧ t.pc = 0xC001#16 ∧ t.cycles = 4#64 := by decide

/-- V43.17 (R158): CP d8 less, A unchanged. -/
theorem test_V43_17 :
  ran [0xFE#8, 0x40#8] { start with a := 0x3C#8 } fun t =>
    t.f = 0x50#8 ∧ t.pc = 0xC002#16 ∧ t.cycles = 8#64 := by decide

/-- V43.18 (R158): CP (HL) half-borrow. -/
theorem test_V43_18 :
  ran [0xBE#8] (({ start with a := 0x3C#8, h := 0xC1#8, l := 0x00#8 }).place 0xC100#16 0x2F#8) fun t =>
    t.f = 0x60#8 ∧ t.pc = 0xC001#16 ∧ t.cycles = 8#64 := by decide

/-- V43.20 (R159): INC A on 0xFF, C set before stays set. -/
theorem test_V43_20 :
  ran [0x3C#8] { start with a := 0xFF#8, f := 0x10#8 } fun t =>
    t.a = 0x00#8 ∧ t.f = 0xB0#8 ∧ t.pc = 0xC001#16 ∧ t.cycles = 4#64 := by decide

/-- V43.21 (R160): INC (HL). -/
theorem test_V43_21 :
  ran [0x34#8] (({ start with h := 0xC1#8, l := 0x00#8 }).place 0xC100#16 0x0F#8) fun t =>
    t.f = 0x20#8 ∧ t.pc = 0xC001#16 ∧ t.byteAt 0xC100#16 = 0x10#8 ∧ t.cycles = 12#64 := by decide

/-- V43.23 (R161): DEC B from zero, half-borrow. -/
theorem test_V43_23 :
  ran [0x05#8] { start with b := 0x00#8 } fun t =>
    t.f = 0x60#8 ∧ t.b = 0xFF#8 ∧ t.pc = 0xC001#16 ∧ t.cycles = 4#64 := by decide

/-- V43.24 (R162): DEC (HL). -/
theorem test_V43_24 :
  ran [0x35#8] (({ start with h := 0xC1#8, l := 0x00#8 }).place 0xC100#16 0x10#8) fun t =>
    t.f = 0x60#8 ∧ t.pc = 0xC001#16 ∧ t.byteAt 0xC100#16 = 0x0F#8 ∧ t.cycles = 12#64 := by decide

/-- V43.26 (R163): DAA after ADD 0x99+0x01 (A=0x9A, F=0x00). -/
theorem test_V43_26 :
  ran [0x27#8] { start with a := 0x9A#8 } fun t =>
    t.a = 0x00#8 ∧ t.f = 0x90#8 ∧ t.pc = 0xC001#16 ∧ t.cycles = 4#64 := by decide

/-- V43.28 (R163): DAA after SUB 0x10-0x01 (A=0x0F, N=1, H=1). -/
theorem test_V43_28 :
  ran [0x27#8] { start with a := 0x0F#8, f := 0x60#8 } fun t =>
    t.a = 0x09#8 ∧ t.f = 0x40#8 ∧ t.pc = 0xC001#16 ∧ t.cycles = 4#64 := by decide

/-- V43.29 (R163): DAA after SUB 0x00-0x01 (A=0xFF, N=1, H=1, C=1). -/
theorem test_V43_29 :
  ran [0x27#8] { start with a := 0xFF#8, f := 0x70#8 } fun t =>
    t.a = 0x99#8 ∧ t.f = 0x50#8 ∧ t.pc = 0xC001#16 ∧ t.cycles = 4#64 := by decide

/-- V43.30 (R164): CPL. -/
theorem test_V43_30 :
  ran [0x2F#8] { start with a := 0x35#8 } fun t =>
    t.a = 0xCA#8 ∧ t.f = 0x60#8 ∧ t.pc = 0xC001#16 ∧ t.cycles = 4#64 := by decide

/-- V43.31 (R165): SCF. -/
theorem test_V43_31 :
  ran [0x37#8] { start with f := 0xE0#8 } fun t =>
    t.f = 0x90#8 ∧ t.pc = 0xC001#16 ∧ t.cycles = 4#64 := by decide

/-- V43.32 (R166): CCF with C=1. -/
theorem test_V43_32 :
  ran [0x3F#8] { start with f := 0xF0#8 } fun t =>
    t.f = 0x80#8 ∧ t.pc = 0xC001#16 ∧ t.cycles = 4#64 := by decide

/-- V44.01 (R170): INC BC wraps, no flags. -/
theorem test_V44_01 :
  ran [0x03#8] { start with b := 0xFF#8, c := 0xFF#8 } fun t =>
    t.f = 0x00#8 ∧ t.b = 0x00#8 ∧ t.c = 0x00#8 ∧ t.pc = 0xC001#16 ∧ t.cycles = 8#64 := by decide

/-- V44.02 (R171): DEC DE wraps, no flags. -/
theorem test_V44_02 :
  ran [0x1B#8] { start with d := 0x00#8, e := 0x00#8, f := 0xF0#8 } fun t =>
    t.f = 0xF0#8 ∧ t.d = 0xFF#8 ∧ t.e = 0xFF#8 ∧ t.pc = 0xC001#16 ∧ t.cycles = 8#64 := by decide

/-- V44.03 (R172): ADD HL,BC half-carry from bit 11. -/
theorem test_V44_03 :
  ran [0x09#8] { start with h := 0x0F#8, l := 0xFF#8, b := 0x00#8, c := 0x01#8, f := 0x80#8 } fun t =>
    t.f = 0xA0#8 ∧ t.h = 0x10#8 ∧ t.l = 0x00#8 ∧ t.pc = 0xC001#16 ∧ t.cycles = 8#64 := by decide

/-- V44.05 (R172): ADD HL,SP. -/
theorem test_V44_05 :
  ran [0x39#8] { start with h := 0x12#8, l := 0x34#8, sp := 0x1111#16, f := 0x40#8 } fun t =>
    t.f = 0x00#8 ∧ t.h = 0x23#8 ∧ t.l = 0x45#8 ∧ t.pc = 0xC001#16 ∧ t.cycles = 8#64 := by decide

/-- V44.06 (R173): ADD SP,e8 carries from the low byte. -/
theorem test_V44_06 :
  ran [0xE8#8, 0x01#8] { start with sp := 0xFFFF#16 } fun t =>
    t.f = 0x30#8 ∧ t.sp = 0x0000#16 ∧ t.pc = 0xC002#16 ∧ t.cycles = 16#64 := by decide

/-- V44.08 (R173): ADD SP,e8 negative with carries. -/
theorem test_V44_08 :
  ran [0xE8#8, 0xFF#8] { start with sp := 0x00FF#16, f := 0x80#8 } fun t =>
    t.f = 0x30#8 ∧ t.sp = 0x00FE#16 ∧ t.pc = 0xC002#16 ∧ t.cycles = 16#64 := by decide

/-- V45.02 (R180): RLCA on zero clears Z. -/
theorem test_V45_02 :
  ran [0x07#8] { start with a := 0x00#8, f := 0x80#8 } fun t =>
    t.f = 0x00#8 ∧ t.pc = 0xC001#16 ∧ t.cycles = 4#64 := by decide

/-- V45.03 (R181): RRCA. -/
theorem test_V45_03 :
  ran [0x0F#8] { start with a := 0x01#8 } fun t =>
    t.a = 0x80#8 ∧ t.f = 0x10#8 ∧ t.pc = 0xC001#16 ∧ t.cycles = 4#64 := by decide

/-- V45.04 (R182): RLA with C=1. -/
theorem test_V45_04 :
  ran [0x17#8] { start with a := 0x95#8, f := 0x10#8 } fun t =>
    t.a = 0x2B#8 ∧ t.f = 0x10#8 ∧ t.pc = 0xC001#16 ∧ t.cycles = 4#64 := by decide

/-- V45.05 (R183): RRA with C=0. -/
theorem test_V45_05 :
  ran [0x1F#8] { start with a := 0x81#8 } fun t =>
    t.a = 0x40#8 ∧ t.f = 0x10#8 ∧ t.pc = 0xC001#16 ∧ t.cycles = 4#64 := by decide

/-- V45.06 (R185): RLC B. -/
theorem test_V45_06 :
  ran [0xCB#8, 0x00#8] { start with b := 0x85#8 } fun t =>
    t.f = 0x10#8 ∧ t.b = 0x0B#8 ∧ t.pc = 0xC002#16 ∧ t.cycles = 8#64 := by decide

/-- V45.08 (R186): RRC (HL). -/
theorem test_V45_08 :
  ran [0xCB#8, 0x0E#8] (({ start with h := 0xC1#8, l := 0x00#8 }).place 0xC100#16 0x01#8) fun t =>
    t.f = 0x10#8 ∧ t.pc = 0xC002#16 ∧ t.byteAt 0xC100#16 = 0x80#8 ∧ t.cycles = 16#64 := by decide

/-- V45.09 (R187): RL C to zero. -/
theorem test_V45_09 :
  ran [0xCB#8, 0x11#8] { start with c := 0x80#8 } fun t =>
    t.f = 0x90#8 ∧ t.c = 0x00#8 ∧ t.pc = 0xC002#16 ∧ t.cycles = 8#64 := by decide

/-- V45.10 (R188): RR D with C=1. -/
theorem test_V45_10 :
  ran [0xCB#8, 0x1A#8] { start with d := 0x01#8, f := 0x10#8 } fun t =>
    t.f = 0x10#8 ∧ t.d = 0x80#8 ∧ t.pc = 0xC002#16 ∧ t.cycles = 8#64 := by decide

/-- V45.11 (R189): SLA E. -/
theorem test_V45_11 :
  ran [0xCB#8, 0x23#8] { start with e := 0xFF#8 } fun t =>
    t.f = 0x10#8 ∧ t.e = 0xFE#8 ∧ t.pc = 0xC002#16 ∧ t.cycles = 8#64 := by decide

/-- V45.12 (R190): SRA H keeps bit 7. -/
theorem test_V45_12 :
  ran [0xCB#8, 0x2C#8] { start with h := 0x8A#8 } fun t =>
    t.f = 0x00#8 ∧ t.h = 0xC5#8 ∧ t.pc = 0xC002#16 ∧ t.cycles = 8#64 := by decide

/-- V45.13 (R191): SWAP A. -/
theorem test_V45_13 :
  ran [0xCB#8, 0x37#8] { start with a := 0xF0#8, f := 0x10#8 } fun t =>
    t.a = 0x0F#8 ∧ t.f = 0x00#8 ∧ t.pc = 0xC002#16 ∧ t.cycles = 8#64 := by decide

/-- V45.15 (R192): SRL A to zero. -/
theorem test_V45_15 :
  ran [0xCB#8, 0x3F#8] { start with a := 0x01#8 } fun t =>
    t.a = 0x00#8 ∧ t.f = 0x90#8 ∧ t.pc = 0xC002#16 ∧ t.cycles = 8#64 := by decide

/-- V45.17 (R193): BIT 7,H clear. -/
theorem test_V45_17 :
  ran [0xCB#8, 0x7C#8] { start with h := 0x7F#8 } fun t =>
    t.f = 0xA0#8 ∧ t.pc = 0xC002#16 ∧ t.cycles = 8#64 := by decide

/-- V45.18 (R193): BIT 0,(HL): 12 cycles, no write. -/
theorem test_V45_18 :
  ran [0xCB#8, 0x46#8] (({ start with h := 0xC1#8, l := 0x00#8 }).place 0xC100#16 0xFE#8) fun t =>
    t.f = 0xA0#8 ∧ t.pc = 0xC002#16 ∧ t.cycles = 12#64 := by decide

/-- V45.19 (R194): RES 0,A. -/
theorem test_V45_19 :
  ran [0xCB#8, 0x87#8] { start with a := 0xFF#8, f := 0xF0#8 } fun t =>
    t.a = 0xFE#8 ∧ t.f = 0xF0#8 ∧ t.pc = 0xC002#16 ∧ t.cycles = 8#64 := by decide

/-- V45.20 (R195): SET 7,(HL). -/
theorem test_V45_20 :
  ran [0xCB#8, 0xFE#8] (({ start with h := 0xC1#8, l := 0x00#8 }).place 0xC100#16 0x01#8) fun t =>
    t.f = 0x00#8 ∧ t.pc = 0xC002#16 ∧ t.byteAt 0xC100#16 = 0x81#8 ∧ t.cycles = 16#64 := by decide

/-- V46.02 (R202): JP NZ taken. -/
theorem test_V46_02 :
  ran [0xC2#8, 0x00#8, 0xD0#8] { start with f := 0x00#8 } fun t =>
    t.f = 0x00#8 ∧ t.pc = 0xD000#16 ∧ t.cycles = 16#64 := by decide

/-- V46.03 (R202): JP NZ not taken. -/
theorem test_V46_03 :
  ran [0xC2#8, 0x00#8, 0xD0#8] { start with f := 0x80#8 } fun t =>
    t.f = 0x80#8 ∧ t.pc = 0xC003#16 ∧ t.cycles = 12#64 := by decide

/-- V46.04 (R203): JP HL. -/
theorem test_V46_04 :
  ran [0xE9#8] { start with h := 0x12#8, l := 0x34#8 } fun t =>
    t.f = 0x00#8 ∧ t.pc = 0x1234#16 ∧ t.cycles = 4#64 := by decide

/-- V46.07 (R204): JR e8 maximum back (0x80). -/
theorem test_V46_07 :
  ran [0x18#8, 0x80#8] start fun t =>
    t.f = 0x00#8 ∧ t.pc = 0xBF82#16 ∧ t.cycles = 12#64 := by decide

/-- V46.08 (R205): JR Z not taken. -/
theorem test_V46_08 :
  ran [0x28#8, 0x05#8] { start with f := 0x00#8 } fun t =>
    t.f = 0x00#8 ∧ t.pc = 0xC002#16 ∧ t.cycles = 8#64 := by decide

/-- V46.09 (R205): JR C taken. -/
theorem test_V46_09 :
  ran [0x38#8, 0x05#8] { start with f := 0x10#8 } fun t =>
    t.f = 0x10#8 ∧ t.pc = 0xC007#16 ∧ t.cycles = 12#64 := by decide

/-- V46.10 (R206): CALL a16. -/
theorem test_V46_10 :
  ran [0xCD#8, 0x00#8, 0xD0#8] start fun t =>
    t.f = 0x00#8 ∧ t.sp = 0xFFFC#16 ∧ t.pc = 0xD000#16 ∧ t.byteAt 0xFFFC#16 = 0x03#8 ∧ t.byteAt 0xFFFD#16 = 0xC0#8
      ∧ t.cycles = 24#64 := by decide

/-- V46.11 (R207): CALL NC not taken. -/
theorem test_V46_11 :
  ran [0xD4#8, 0x00#8, 0xD0#8] { start with f := 0x10#8 } fun t =>
    t.f = 0x10#8 ∧ t.pc = 0xC003#16 ∧ t.cycles = 12#64 := by decide

/-- V46.12 (R207): CALL Z taken. -/
theorem test_V46_12 :
  ran [0xCC#8, 0x00#8, 0xD0#8] { start with f := 0x80#8 } fun t =>
    t.f = 0x80#8 ∧ t.sp = 0xFFFC#16 ∧ t.pc = 0xD000#16 ∧ t.byteAt 0xFFFC#16 = 0x03#8 ∧ t.byteAt 0xFFFD#16 = 0xC0#8
      ∧ t.cycles = 24#64 := by decide

/-- V46.14 (R209): RET Z taken. -/
theorem test_V46_14 :
  ran [0xC8#8] ((({ start with sp := 0xFFFC#16, f := 0x80#8 }).place 0xFFFC#16 0x03#8).place 0xFFFD#16 0xC0#8)
      fun t =>
    t.f = 0x80#8 ∧ t.sp = 0xFFFE#16 ∧ t.pc = 0xC003#16 ∧ t.cycles = 20#64 := by decide

/-- V46.15 (R209): RET Z not taken. -/
theorem test_V46_15 :
  ran [0xC8#8] ((({ start with sp := 0xFFFC#16 }).place 0xFFFC#16 0x03#8).place 0xFFFD#16 0xC0#8) fun t =>
    t.f = 0x00#8 ∧ t.pc = 0xC001#16 ∧ t.cycles = 8#64 := by decide

/-- V46.16 (R210): RETI sets ime at once. -/
theorem test_V46_16 :
  ran [0xD9#8] ((({ start with sp := 0xFFFC#16 }).place 0xFFFC#16 0x03#8).place 0xFFFD#16 0xC0#8) fun t =>
    t.f = 0x00#8 ∧ t.sp = 0xFFFE#16 ∧ t.pc = 0xC003#16 ∧ t.ime = true ∧ t.cycles = 16#64 := by decide

/-- V46.18 (R211): RST 08H. -/
theorem test_V46_18 :
  ran [0xCF#8] start fun t =>
    t.f = 0x00#8 ∧ t.sp = 0xFFFC#16 ∧ t.pc = 0x0008#16 ∧ t.byteAt 0xFFFC#16 = 0x01#8 ∧ t.byteAt 0xFFFD#16 = 0xC0#8
      ∧ t.cycles = 16#64 := by decide

/-- V47.01 (R220): NOP. -/
theorem test_V47_01 :
  ran [0x00#8] start fun t =>
    t.f = 0x00#8 ∧ t.pc = 0xC001#16 ∧ t.cycles = 4#64 := by decide

/-- V47.09 (R223): DI. -/
theorem test_V47_09 :
  ran [0xF3#8] { start with ime := true } fun t =>
    t.f = 0x00#8 ∧ t.pc = 0xC001#16 ∧ t.ime = false ∧ t.cycles = 4#64 := by decide

/-- V60.01 (R240): priority: lowest index wins. -/
theorem test_V60_01 :
  ran [0x00#8] { start with ime := true, ie := 0x1F#8, ifr := 0x14#5 } fun t =>
    t.f = 0x00#8 ∧ t.sp = 0xFFFC#16 ∧ t.pc = 0x0050#16 ∧ t.ime = false ∧ t.ifr = 0x10#5 ∧ t.byteAt 0xFFFC#16 =
      0x00#8 ∧ t.byteAt 0xFFFD#16 = 0xC0#8 ∧ t.cycles = 20#64 := by decide

/-- V60.02 (R238): enabled but not requested: no service. -/
theorem test_V60_02 :
  ran [0x00#8] { start with ime := true, ie := 0x01#8, ifr := 0x02#5 } fun t =>
    t.f = 0x00#8 ∧ t.pc = 0xC001#16 ∧ t.cycles = 4#64 := by decide

/-- V60.03 (R240): service pushes through wrapping SP. -/
theorem test_V60_03 :
  ran [0x00#8] { start with ime := true, ie := 0x10#8, ifr := 0x10#5, sp := 0x0001#16 } fun t =>
    t.f = 0x00#8 ∧ t.sp = 0xFFFF#16 ∧ t.pc = 0x0060#16 ∧ t.ime = false ∧ t.ifr = 0x00#5 ∧ t.ie = 0x00#8 ∧ t.byteAt
      0x0000#16 = 0xC0#8 ∧ t.cycles = 20#64 := by decide

/-! ### Faults, parameters, power-on -/

/-- V60.04 (R231): DecodeFault on 0xD3. -/
theorem test_V60_04 :
    faulted [0xD3#8] start fun f => f = .decodeFault 0xC000#16 0xD3#8 0#64 (ram [(0xC000, 0xD3#8)]) := by decide

/-- V60.05 (R232): BusFault on a write to a non-writable address. -/
theorem test_V60_05 :
    faulted [0x77#8] { start with a := 0x01#8, bus := .ram { mem := [], readFails := [], writeFails := [⟨0, 0⟩] } } fun f =>
      f = .busFault (.write 0x0000#16 0x01#8) 0xC000#16
        (.ram { mem := [(0xC000, 0x77#8)], readFails := [], writeFails := [⟨0, 0⟩] }) := by decide

/-- V60.06 (R233): HaltBugFault under `P_HALT_BUG = fault`. -/
theorem test_V60_06 :
    faulted [0x76#8] { start with ie := 0x01#8, ifr := 1#5, haltBugPolicy := .fault } fun f =>
      f = .haltBugFault 0xC000#16 (ram [(0xC000, 0x76#8)]) := by decide

/-- V60.07 (R233): StopFault under `P_STOP = fault`. -/
theorem test_V60_07 :
    faulted [0x10#8, 0x00#8] { start with stopPolicy := .fault } fun f =>
      f = .stopFault 0xC000#16 (ram [(0xC000, 0x10#8)]) := by decide

/-- V47.02, first step (R221): HALT with nothing requested. -/
theorem test_V47_02 :
    ran [0x76#8] start fun t => t.f = 0x00#8 ∧ t.pc = 0xC001#16 ∧ t.halted ∧ t.cycles = 4#64 := by decide

/-- V47.04, first step (R221): the halt quirk is set, the core does not halt. -/
theorem test_V47_04_first :
    ran [0x76#8, 0x3E#8, 0x14#8] { start with ie := 0x01#8, ifr := 1#5, pc := 0x0200#16 } fun t =>
      t.haltBug ∧ !t.halted ∧ t.pc = 0x0201#16 ∧ t.cycles = 4#64 := by decide

/-- V47.04, second step (R247): the byte 0x3E is read as the opcode and again as the immediate. -/
theorem test_V47_04_second :
    ran [0x3E#8, 0x14#8] { start with ie := 0x01#8, ifr := 1#5, pc := 0x0201#16, haltBug := true } fun t =>
      t.a = 0x3E#8 ∧ !t.haltBug ∧ t.pc = 0x0202#16 ∧ t.cycles = 8#64 := by decide

/-- V47.06, first step (R222): STOP. -/
theorem test_V47_06 :
    ran [0x10#8, 0x00#8] start fun t => t.stopped ∧ t.pc = 0xC002#16 ∧ t.cycles = 4#64 := by decide

/-- V47.11, first step (R224): EI leaves ime clear and the enable pending. -/
theorem test_V47_11_first :
    ran [0xFB#8] { start with ie := 0x04#8, ifr := 0b00100#5 } fun t =>
      !t.ime ∧ t.eiPending ∧ t.cycles = 4#64 := by decide

/-- V47.11, second step (R224): ime is set as the next instruction ends. -/
theorem test_V47_11_second :
    ran [0x00#8] { start with ie := 0x04#8, ifr := 0b00100#5, eiPending := true } fun t =>
      t.ime ∧ !t.eiPending ∧ t.pc = 0xC001#16 := by decide

/-- V47.03, third step (R246): wake and service in one step. -/
theorem test_V47_03_third :
    ran [0x00#8] { start with ime := true, ie := 0x01#8, ifr := 1#5, halted := true } fun t =>
      t.pc = 0x0040#16 ∧ t.sp = 0xFFFC#16 ∧ !t.halted ∧ !t.ime ∧ t.ifr = 0#5 ∧
        t.byteAt 0xFFFD#16 = 0xC0#8 ∧ t.cycles = 20#64 := by decide

/-- V70.01, first step (R282): LDH (0xFF),A writes IE. -/
theorem test_V70_01_first :
    ran [0xE0#8, 0xFF#8] { start with ime := true, ifr := 0b00100#5, a := 0x04#8, pc := 0x0200#16 } fun t =>
      t.ie = 0x04#8 ∧ t.pc = 0x0202#16 ∧ t.cycles = 12#64 := by decide

/-- V10.01, V10.02 (R43): F after a `post_boot_dmg` reset depends on the header checksum byte. -/
theorem test_V10_01_and_02 :
    (State.resetWith .postBootDmg .reproduce .waitJoypad (ram [(0x014D, 0xE7#8)])).f = 0xB0#8 ∧ State.reset.f = 0x80#8 ∧
      State.reset.pc = 0x0100#16 ∧ State.reset.byteAt ifAddr = 0xE1#8 := by decide

/-- A machine reset with the profile `power_on`. -/
def powered : State := State.resetWith .powerOn .reproduce .waitJoypad (ram [])

/-- V10.03, first step (R44): a write gives the cell a value. -/
theorem test_V10_03_first :
    ran [0x3E#8, 0x00#8, 0x3C#8] powered fun t =>
      t.a = 0x00#8 ∧ t.unset = { Unset.all with a := false } ∧ t.pc = 0x0002#16 ∧ t.cycles = 8#64 := by decide

/-- V10.03, second step (R44): INC A keeps C, so it reads F. -/
theorem test_V10_03_second :
    faulted [0x3C#8] { powered with pc := 0x0002#16, unset := { Unset.all with a := false } } fun f =>
      f = .undefinedRegisterFault .f 0x0002#16 (ram [(0x0002, 0x3C#8)]) := by decide

/-- V10.04 (R44): PUSH BC reads the pair before SP. -/
theorem test_V10_04 :
    faulted [0xC5#8] powered fun f => f = .undefinedRegisterFault .bc 0x0000#16 (ram [(0x0000, 0xC5#8)]) := by decide

/-- V10.05 (R44): with ime clear and not halted, neither IE nor IF is read. -/
theorem test_V10_05 :
    ran [0x31#8, 0xFE#8, 0xFF#8] powered fun t => t.sp = 0xFFFE#16 ∧ t.pc = 0x0003#16 ∧ t.cycles = 12#64 := by decide

/-- §8 scenario 4 (70_reset_and_hazards.md R274): the all-zero header sums to 0xE7; a flipped bit is found. -/
theorem test_header_checksum :
    headerChecksumOK (ram [(0x014D, 0xE7#8)]) = true ∧
      headerChecksumOK (ram [(0x0134, 0x01#8), (0x014D, 0xE7#8)]) = false ∧
      (bootGate State.reset).isNone := by decide

/-- 20_memory.md R74: writing the byte an unlisted address reads as removes the entry. -/
theorem test_memory_stays_canonical :
    Memory.write (Memory.write (Memory.write [] 0xC001 0x11#8) 0xC000 0x22#8) 0xC001 0x00#8 = [(0xC000, 0x22#8)] ∧
      Memory.wf [(0xC000, 0x22#8), (0xC001, 0x11#8)] = true ∧ Memory.wf [(0xC001, 0x11#8), (0xC000, 0x22#8)] = false ∧
      Memory.wf [(0xC000, 0x00#8)] = false ∧ Memory.wf [(0x10000, 0x01#8)] = false := by decide

/-- 20_memory.md R51, R64: a read of a bus that is not RAM_BUS is made once, returns the byte the bus gives, and leaves the
bus in the state the bus chooses; a failure is a BusFault with the bus as the call left it (R54). -/
theorem test_read_of_another_bus (hr : Config.busReadByte 7 0xFF00#16 = (some 0xCF#8, 8))
    (hf : Config.busReadByte 7 0xFF04#16 = (none, 9)) :
    memRead8 0xFF00#16 { start with bus := .other 7 } = .ok 0xCF#8 { start with bus := .other 8 } ∧
      memRead8 0xFF04#16 { start with bus := .other 7 } =
        .error (.busFault (.read 0xFF04#16) start.stepPc (.other 9)) { start with bus := .other 9 } := by
  constructor
  · simp [memRead8, busRead, Bus.readByte, State.setBus, hr, ifAddr, ieAddr]
  · simp [memRead8, busRead, Bus.readByte, State.setBus, Op.raise, hf, ifAddr, ieAddr]

/-- 20_memory.md R52: a bus takes a write as a command: the byte need not be stored; only the bus's own state changes. -/
theorem test_write_of_another_bus (hw : Config.busWriteByte 7 0x2000#16 0x03#8 = (true, 3)) :
    memWrite8 0x2000#16 0x03#8 { start with bus := .other 7 } = .ok () { start with bus := .other 3 } := by
  simp [memWrite8, busWrite, Bus.writeByte, State.setBus, hw, ifAddr, ieAddr]

/-- 20_memory.md R69, R74: between steps a peripheral changes a byte of RAM_BUS and takes an address out of `readable`. -/
theorem test_peripheral_change :
    (let t := peripheralChange (.ram { mem := [(0xFF44, 0x90#8)], readFails := [⟨0x8000, 0x9FFF⟩], writeFails := [] }) start
     t.byteAt 0xFF44#16 = 0x90#8 ∧ t.canRead 0x9FFF#16 = false ∧ t.canRead 0xA000#16 = true ∧ t.sp = start.sp) := by
  decide

/-- The interface's own words: the first step after reset runs what `withFetchWord` stored. -/
theorem test_with_fetch_word :
    (match step (State.reset.withFetchWord 16 0xCB37) with | .next t => decide (t.a = 0x10#8 ∧ t.pc = 0x0102#16) | _ => false)
      = true := by decide

/-! ### For every obligation with hypotheses, an input that meets them

Addresses are taken where the space wraps and where the core decodes IF and IE itself. -/

/-- HL at IE, BC at IF, DE at 0x0000, SP one above 0x0000, so that a push wraps. -/
def edge : State :=
  { start with
    a := 0x99#8, f := 0x10#8, b := 0xFF#8, c := 0x0F#8, h := 0xFF#8, l := 0xFF#8, sp := 0x0001#16, ie := 0xFF#8 }

theorem test_witness_DecodeOfEncode : Instr.wellFormed (.ldIndA16Sp 0xFFFF#16) = true ∧ Instr.wellFormed .set7IndHl = true := by
  decide

theorem test_witness_EncodeOfDecode : decode [0xCB#8, 0xCB#8, 0x00#8] = .ok (.set1E, [0x00#8]) := rfl

theorem test_witness_DecodedLength :
    decode [0xFF#8] = .ok (.rst38h, []) ∧ decode [0xCD#8, 0xFF#8, 0xFF#8, 0x00#8] = .ok (.callA16 0xFFFF#16, [0x00#8]) :=
  ⟨rfl, rfl⟩

/-- The instruction wraps: its opcode is IE's byte, its immediate stands at 0x0000. -/
theorem test_witness_StepRunsTheDecodedInstruction :
    ∃ s u : State, s.Runs ∧ s.haltBug = false ∧ s.ime = true ∧ s.eiPending = true ∧
      decode (s.bytesAt [s.pc, s.pc + 1#16, s.pc + 2#16]) = .ok (.ldAD8 0x5A#8, [0x00#8]) ∧
      s.walk (([s.pc, s.pc + 1#16, s.pc + 2#16].take (Instr.ldAD8 0x5A#8).descriptor.length).map .read) = .ok u :=
  ⟨{ start with pc := 0xFFFF#16, ie := 0x3E#8, ime := true, eiPending := true, bus := ram [(0x0000, 0x5A#8)] }, _,
    ⟨rfl, rfl, rfl, fun _ => ⟨rfl, rfl, rfl⟩⟩, rfl, rfl, rfl, rfl, rfl⟩

/-- Under the halt quirk the byte 0x08 is the opcode and the low byte of the address. -/
theorem test_witness_StepRunsTheDecodedInstruction_quirk :
    ∃ s u : State, s.Runs ∧ s.haltBug = true ∧
      decode (s.bytesAt [s.pc, s.pc, s.pc + 1#16]) = .ok (.ldIndA16Sp 0x1408#16, []) ∧
      s.walk (([s.pc, s.pc, s.pc + 1#16].take (Instr.ldIndA16Sp 0x1408#16).descriptor.length).map .read) = .ok u :=
  ⟨{ start with haltBug := true, bus := ram [(0xC000, 0x08#8), (0xC001, 0x14#8)] }, _,
    ⟨rfl, rfl, rfl, fun h => by cases h⟩, rfl, rfl, rfl⟩

/-- A refused opcode, at the first address of the space; a refused second byte of an immediate, which wraps. -/
theorem test_witness_RefusedFetchFaults :
    (∃ s u : State, s.Runs ∧ decode (s.bytesAt s.fetchAddrs) = .ok (.nop, [0x00#8, 0x00#8]) ∧
      s.fetchAddrs.take Instr.nop.descriptor.length = [] ++ 0x0000#16 :: [] ∧ s.walk [] = .ok u ∧
      onBus 0x0000#16 = true ∧ (u.bus.readByte 0x0000#16).1 = none) ∧
    (∃ s u : State, s.Runs ∧ decode (s.bytesAt s.fetchAddrs) = .ok (.jpA16 0x0000#16, []) ∧
      s.fetchAddrs.take (Instr.jpA16 0x0000#16).descriptor.length = [0xFFFE#16, 0xFFFF#16] ++ 0x0000#16 :: [] ∧
      s.walk ([0xFFFE#16, 0xFFFF#16].map .read) = .ok u ∧ onBus 0x0000#16 = true ∧
      (u.bus.readByte 0x0000#16).1 = none) :=
  ⟨⟨{ start with pc := 0x0000#16, bus := .ram { mem := [], readFails := [⟨0, 0⟩], writeFails := [] } }, _,
      ⟨rfl, rfl, rfl, fun h => by cases h⟩, rfl, rfl, rfl, rfl, rfl⟩,
    ⟨{ start with pc := 0xFFFE#16, bus := .ram { mem := [(0xFFFE, 0xC3#8)], readFails := [⟨0, 0⟩], writeFails := [] } }, _,
      ⟨rfl, rfl, rfl, fun h => by cases h⟩, rfl, rfl, rfl, rfl, rfl⟩⟩

/-- PC at IF and at IE, each of them UNDEF. -/
theorem test_witness_RefusedFetchFaults_undefined :
    (∃ s u : State, s.Runs ∧ decode (s.bytesAt s.fetchAddrs) = .ok (.ldhIndA8A 0x00#8, [0x00#8]) ∧
      s.fetchAddrs.take (Instr.ldhIndA8A 0x00#8).descriptor.length = [] ++ ifAddr :: [0xFF10#16] ∧ s.walk [] = .ok u ∧
      u.unset.ifr = true) ∧
    (∃ s u : State, s.Runs ∧ decode (s.bytesAt s.fetchAddrs) = .ok (.nop, [0x00#8, 0x00#8]) ∧
      s.fetchAddrs.take Instr.nop.descriptor.length = [] ++ ieAddr :: [] ∧ s.walk [] = .ok u ∧ u.unset.ie = true) :=
  ⟨⟨{ powered with pc := ifAddr }, _, ⟨rfl, rfl, rfl, fun h => by cases h⟩, rfl, rfl, rfl, rfl⟩,
    ⟨{ powered with pc := ieAddr }, _, ⟨rfl, rfl, rfl, fun h => by cases h⟩, rfl, rfl, rfl, rfl⟩⟩

/-- An UNDEF IF while stopped; an UNDEF IE while halted or with ime set; an UNDEF IF behind an IE that holds a value; an
UNDEF SP at a service. -/
theorem test_witness_BoundaryStops :
    (let s : State := { powered with stopped := true }
     s.fault = none ∧ s.stopped = true ∧ s.unset.ifr = true) ∧
    (let s : State := { powered with halted := true }
     s.fault = none ∧ (s.stopped = true → s.unset.ifr = false ∧ s.ifr.getLsbD 4 = true) ∧
       (s.halted = true ∨ s.ime = true) ∧ s.unset.ie = true) ∧
    (let s : State := { powered with ime := true, unset := { Unset.all with ie := false } }
     s.fault = none ∧ (s.stopped = true → s.unset.ifr = false ∧ s.ifr.getLsbD 4 = true) ∧
       (s.halted = true ∨ s.ime = true) ∧ s.unset.ie = false ∧ s.unset.ifr = true) ∧
    (let s : State :=
      { powered with
        ime := true, stopped := true, ie := 0x10#8, ifr := 0b10000#5, unset := { Unset.all with ie := false, ifr := false } }
     s.fault = none ∧ s.ime = true ∧ s.unset.ie = false ∧ s.unset.ifr = false ∧
       (s.stopped = true → s.ifr.getLsbD 4 = true) ∧ pendingOf s.ie s.ifr ≠ 0#5 ∧ s.unset.sp = true) := by
  decide

/-- A service whose first stack byte the bus refuses, and one, under the halt quirk, whose second it refuses. -/
theorem test_witness_BoundaryStops_refused_push :
    (let s : State :=
      { edge with
        ime := true, ifr := 0b00001#5, sp := 0x0002#16
        bus := .ram { mem := [], readFails := [], writeFails := [⟨1, 1⟩] } }
     s.fault = none ∧ s.ime = true ∧ s.unset.ie = false ∧ s.unset.ifr = false ∧ s.stopped = false ∧
       pendingOf s.ie s.ifr ≠ 0#5 ∧ s.unset.sp = false ∧ onBus (s.sp - 1#16) = true ∧
       (s.bus.writeByte (s.sp - 1#16) 0xC0#8).1 = false) ∧
    (let s : State :=
      { edge with
        ime := true, ifr := 0b10000#5, sp := 0x0002#16, haltBug := true
        bus := .ram { mem := [], readFails := [], writeFails := [⟨0, 0⟩] } }
     s.fault = none ∧ s.ime = true ∧ s.unset.ie = false ∧ s.unset.ifr = false ∧ s.stopped = false ∧
       pendingOf s.ie s.ifr ≠ 0#5 ∧ s.unset.sp = false ∧ s.canWrite (s.sp - 1#16) 0xBF#8 = true ∧
       onBus (s.sp - 2#16) = true ∧
       ((s.storeByte (s.sp - 1#16) 0xBF#8).bus.writeByte (s.sp - 2#16) 0xFF#8).1 = false) := by
  decide

/-- Each of the seven causes happens; the fault of the stack write comes after the bus accepted one byte. -/
theorem test_witness_FaultsHaveTheirCauses :
    faulted [0xFD#8] start (fun f => f = .decodeFault 0xC000#16 0xFD#8 0#64 (ram [(0xC000, 0xFD#8)])) ∧
    faulted [0x7E#8] { start with bus := .ram { mem := [], readFails := [⟨0, 0⟩], writeFails := [] } }
      (fun f => f = .busFault (.read 0x0000#16) 0xC000#16
        (.ram { mem := [(0xC000, 0x7E#8)], readFails := [⟨0, 0⟩], writeFails := [] })) ∧
    faulted [0xFF#8] { start with sp := 0xC100#16, bus := .ram { mem := [], readFails := [], writeFails := [⟨0xC0FE, 0xC0FE⟩] } }
      (fun f => f = .busFault (.write 0xC0FE#16 0x01#8) 0xC000#16
        (.ram { mem := [(0xC000, 0xFF#8), (0xC0FF, 0xC0#8)], readFails := [], writeFails := [⟨0xC0FE, 0xC0FE⟩] })) ∧
    faulted [0x76#8] { start with ie := 0x10#8, ifr := 0b10000#5, haltBugPolicy := .fault }
      (fun f => f = .haltBugFault 0xC000#16 (ram [(0xC000, 0x76#8)])) ∧
    faulted [0x10#8] { start with stopPolicy := .fault } (fun f => f = .stopFault 0xC000#16 (ram [(0xC000, 0x10#8)])) ∧
    faulted [0x00#8] { powered with pc := 0xC000#16, halted := true }
      (fun f => f = .undefinedRegisterFault .ie 0xC000#16 (ram [])) ∧ start.fault = none := by
  decide

theorem test_witness_FaultIsTerminal :
    ∃ s : State, ∃ f : Fault, s.fault = none ∧ s.bus.wf = true ∧ stepCall s = (.fault f, s.afterFault f) :=
  ⟨start.place 0xC000#16 0xD3#8, .decodeFault 0xC000#16 0xD3#8 0#64 (ram [(0xC000, 0xD3#8)]), rfl, rfl, rfl⟩

/-- The counter wraps from its last value. -/
theorem test_witness_StepCountsItsCycles :
    ∃ s t : State, stepCall s = (.ok 4, t) ∧ s.cycles = 0xFFFFFFFFFFFFFFFF#64 ∧ t.cycles = 3#64 :=
  ⟨{ start with cycles := 0xFFFFFFFFFFFFFFFF#64 }, _, rfl, rfl, rfl⟩

/-- RAM_BUS that refuses nothing never fails. -/
theorem test_ram_never_fails (m : Memory) : (ram m).NeverFails := by
  rintro (r | n) h a v
  · obtain ⟨h1, h2⟩ := h
    simp [Bus.readByte, Bus.writeByte, h1, h2, inRanges]
  · exact h.elim

theorem test_witness_OnlyIllegalOpcodesStopTheDefaultMachine : start.Default ∧ State.reset.Default :=
  ⟨⟨rfl, rfl, test_ram_never_fails [], rfl, rfl⟩, ⟨rfl, rfl, test_ram_never_fails [], rfl, rfl⟩⟩

/-- The last source, from a core that is stopped and halted, and the first one, under the halt quirk. -/
theorem test_witness_ServiceTakesTheLowestSource :
    (let s : State := { edge with ime := true, ifr := 0b10000#5, stopped := true, halted := true }
     s.fault = none ∧ s.ime = true ∧ s.unset.ie = false ∧ s.unset.ifr = false ∧
     (s.stopped = true → s.ifr.getLsbD 4 = true) ∧ s.ie.getLsbD 4 = true ∧ s.ifr.getLsbD 4 = true ∧
     (∀ j < 4, (s.ie.getLsbD j && s.ifr.getLsbD j) = false) ∧ s.canPush s.pc = true) ∧
    (let s : State := { edge with ime := true, ifr := 0b11111#5, haltBug := true }
     s.fault = none ∧ s.ime = true ∧ s.unset.ie = false ∧ s.unset.ifr = false ∧
     (s.stopped = true → s.ifr.getLsbD 4 = true) ∧ s.ie.getLsbD 0 = true ∧ s.ifr.getLsbD 0 = true ∧
     (∀ j < 0, (s.ie.getLsbD j && s.ifr.getLsbD j) = false) ∧ s.canPush (s.pc - 1#16) = true) := by
  decide

theorem test_witness_StoppedCoreWaitsForJoypad :
    (let s : State := { edge with stopped := true, ifr := 0b01111#5 }
     s.fault = none ∧ s.stopped = true ∧ s.unset.ifr = false ∧ s.ifr.getLsbD 4 = false) ∧
    (let s : State := { edge with stopped := true, ifr := 0b10000#5 }
     s.fault = none ∧ s.stopped = true ∧ s.unset.ifr = false ∧ s.ifr.getLsbD 4 = true) := by
  decide

theorem test_witness_HaltedCoreWaitsForARequest :
    (let s : State := { edge with halted := true, ie := 0xE0#8, ifr := 0b11111#5 }
     s.fault = none ∧ s.stopped = false ∧ s.halted = true ∧ s.unset.ie = false ∧ s.unset.ifr = false ∧
     pendingOf s.ie s.ifr = 0#5) ∧
    (let s : State := { edge with halted := true, ie := 0x10#8, ifr := 0b10000#5 }
     s.fault = none ∧ s.stopped = false ∧ s.halted = true ∧ s.unset.ie = false ∧ s.unset.ifr = false ∧
     pendingOf s.ie s.ifr ≠ 0#5) := by
  decide

/-- DI, RETI, EI and another instruction, each with an enable pending. -/
theorem test_witness_EnableIsDelayedByOneInstruction :
    ({ start with eiPending := true } : State).Runs ∧
    ran [0xF3#8] { start with eiPending := true } (fun t => !t.ime ∧ !t.eiPending) ∧
    ran [0xD9#8] { start with eiPending := true } (fun t => t.ime ∧ !t.eiPending) ∧
    ran [0xFB#8] { start with eiPending := true } (fun t => t.ime ∧ !t.eiPending) ∧
    ran [0xFB#8] start (fun t => !t.ime ∧ t.eiPending) ∧
    ran [0x3C#8] { start with eiPending := true } (fun t => t.ime ∧ !t.eiPending) :=
  ⟨⟨rfl, rfl, rfl, fun h => by cases h⟩, by decide, by decide, by decide, by decide, by decide⟩

theorem test_witness_RequestSetsOneBit :
    start.unset.ifr = false ∧ (requestInterrupt 0 start).isSome ∧ (requestInterrupt 4 start).isSome ∧
      (requestInterrupt 5 start).isNone := by decide

/-- A store to IE, a wrapping push, and a form that stores nothing. -/
theorem test_witness_MemoryFrame :
    (∃ t, exec .ldIndHlA edge = .next t ∧ 0x0000#16 ∉ storesTo .ldIndHlA edge ∧ ifAddr ∉ storesTo .ldIndHlA edge) ∧
    (∃ t, exec .pushAf edge = .next t ∧ storesTo .pushAf edge = [0x0000#16, 0xFFFF#16]) ∧
    (∃ t, exec .cpIndHl edge = .next t ∧ storesTo .cpIndHl edge = []) ∧ edge.bus = ram [] :=
  ⟨⟨_, rfl, by decide, by decide⟩, ⟨_, rfl, rfl⟩, ⟨_, rfl, rfl⟩, rfl⟩

theorem test_witness_RegisterFrame :
    ∃ t, exec .ldAIndHlInc edge = .next t ∧ Reg8.b ∉ destRegs .ldAIndHlInc ∧ writesSp .ldAIndHlInc = false ∧
      writesPc .ldAIndHlInc = false :=
  ⟨_, rfl, by decide, rfl, rfl⟩

theorem test_witness_FlagFrame :
    (∃ t, exec .scf edge = .next t ∧ Instr.scf.descriptor.flags = some ⟨.keep, .clear, .clear, .set⟩) ∧
    (∃ t, exec .incBc edge = .next t ∧ Instr.incBc.descriptor.flags = some ⟨.keep, .keep, .keep, .keep⟩) :=
  ⟨⟨_, rfl, rfl⟩, ⟨_, rfl, rfl⟩⟩

/-- One instruction with one count, and a conditional one taken and not taken. -/
theorem test_witness_CyclesAreThoseOfTheTable :
    (∃ t, Instr.wellFormed (.callCA16 0xFFFF#16) = true ∧ exec (.callCA16 0xFFFF#16) edge = .next t ∧ t.cycles = 24#64) ∧
    (∃ t, exec (.callNcA16 0xFFFF#16) edge = .next t ∧ t.cycles = 12#64) ∧
    (∃ t, exec .nop edge = .next t ∧ t.cycles = 4#64) :=
  ⟨⟨_, rfl, rfl, rfl⟩, ⟨_, rfl, rfl⟩, ⟨_, rfl, rfl⟩⟩

theorem test_witness_ControlFrame : ∃ t, exec .ret edge = .next t ∧ t.ime = false := ⟨_, rfl, rfl⟩

theorem test_witness_CellsStayDefined :
    ∃ t, step { powered with pc := 0xC000#16, unset := { Unset.all with sp := false } } = .next t ∧ t.unset.sp = false :=
  ⟨_, rfl, rfl⟩

/-- Memory listed at the first and the last address, and a bus that is not RAM_BUS. -/
theorem test_witness_ResetMeetsTheInvariant :
    Bus.wf (ram [(0x0000, 0x01#8), (0xFFFF, 0xFF#8)]) = true ∧ Bus.wf (.other 0) = true := by decide

/-- A state that meets the invariant and steps, and every clause of the invariant that speaks of a special state. -/
theorem test_witness_StepKeepsTheInvariant :
    (edge.Inv ∧ ∃ t, step edge = .next t) ∧ ({ edge with halted := true } : State).Inv ∧
      ({ edge with stopped := true } : State).Inv ∧ ({ edge with haltBug := true } : State).Inv :=
  ⟨⟨⟨rfl, rfl, rfl, nofun, nofun, nofun, nofun⟩, _, rfl⟩,
    ⟨rfl, rfl, rfl, fun _ => ⟨rfl, rfl⟩, nofun, nofun, nofun⟩,
    ⟨rfl, rfl, rfl, nofun, fun _ => ⟨rfl, rfl⟩, nofun, fun _ => rfl⟩,
    ⟨rfl, rfl, rfl, nofun, nofun, fun _ => rfl, nofun⟩⟩

theorem test_witness_ReachableStatesMeetTheInvariant :
    Reachable State.reset ∧
      Reachable (peripheralChange (.ram { mem := [], readFails := [⟨0, 0⟩], writeFails := [] }) State.reset) :=
  ⟨.reset _ _ _ _ rfl, .move (.reset .postBootDmg .reproduce .waitJoypad (ram []) rfl) (.bus _ rfl rfl)⟩

/-- The three kinds of address: the bus, IF, IE. -/
theorem test_witness_WriteReadsBack :
    edge.bus = ram [] ∧ Memory.wf [] = true ∧ (∃ t, memWrite8 0x0000#16 0xFF#8 edge = .ok () t) ∧
      (∃ t, memWrite8 ifAddr 0xFF#8 edge = .ok () t) ∧ (∃ t, memWrite8 ieAddr 0xFF#8 edge = .ok () t) :=
  ⟨rfl, rfl, ⟨_, rfl⟩, ⟨_, rfl⟩, ⟨_, rfl⟩⟩

theorem test_witness_LoadByte :
    edge.unset.reg .a = false ∧ edge.unset.pair .hl = false ∧ edge.canRead (edge.pair .hl) = true ∧
      edge.canWrite (edge.pair .hl) (edge.reg .a) = true ∧ edge.canWrite (edge.pair .hl) 0xFF#8 = true ∧
      edge.pair .hl = ieAddr := by
  decide

/-- BC at IF, DE at 0x0000, HL at IE, and the first and last addresses of the other forms. -/
theorem test_witness_LoadAccumulator :
    edge.unset.pair .bc = false ∧ edge.canRead (edge.pair .bc) = true ∧ edge.unset.pair .de = false ∧
      edge.canRead (edge.pair .de) = true ∧ edge.unset.pair .hl = false ∧ edge.canRead (edge.pair .hl) = true ∧
      edge.canRead 0x0000#16 = true ∧ edge.canRead 0xFFFF#16 = true ∧
      edge.canRead (0xFF00#16 + (0x00#8).zeroExtend 16) = true ∧ edge.canRead (0xFF00#16 + (0xFF#8).zeroExtend 16) = true ∧
      edge.unset.c = false ∧ edge.canRead (0xFF00#16 + edge.c.zeroExtend 16) = true := by
  decide

theorem test_witness_StoreAccumulator :
    edge.unset.a = false ∧ edge.unset.pair .bc = false ∧ edge.canWrite (edge.pair .bc) edge.a = true ∧
      edge.unset.pair .de = false ∧ edge.canWrite (edge.pair .de) edge.a = true ∧ edge.unset.pair .hl = false ∧
      edge.canWrite (edge.pair .hl) edge.a = true ∧ edge.canWrite 0x0000#16 edge.a = true ∧
      edge.canWrite 0xFFFF#16 edge.a = true ∧ edge.canWrite (0xFF00#16 + (0x00#8).zeroExtend 16) edge.a = true ∧
      edge.canWrite (0xFF00#16 + (0xFF#8).zeroExtend 16) edge.a = true ∧
      edge.unset.c = false ∧ edge.canWrite (0xFF00#16 + edge.c.zeroExtend 16) edge.a = true := by
  decide

/-- A push that wraps: its second byte goes to IE. -/
theorem test_witness_PushAndPopPair_push :
    edge.unset.sp = false ∧ edge.unset.pair Rp2.af.reg16 = false ∧ edge.unset.pair Rp2.bc.reg16 = false ∧
      edge.canWrite (edge.sp - 1#16) 0xFF#8 = true ∧
      (edge.storeByte (edge.sp - 1#16) 0xFF#8).canWrite (edge.sp - 2#16) 0x0F#8 = true ∧ edge.sp - 2#16 = ieAddr := by
  decide

/-- SP at 0xFFFF: the second byte is read from 0x0000. -/
theorem test_witness_PushAndPopPair_pop :
    (let s : State := { edge with sp := 0xFFFF#16 }
     s.unset.sp = false ∧ s.canRead s.sp = true ∧ (s.afterRead s.sp).canRead (s.sp + 1#16) = true) := by
  decide

theorem test_witness_PopReturnsWhatWasPushed :
    edge.bus = ram [] ∧ Memory.wf [] = true ∧ edge.unset.pair Rp2.af.reg16 = false ∧
      edge.canPush (edge.pair Rp2.af.reg16) = true ∧ edge.canRead (edge.sp - 1#16) = true ∧
      edge.canRead (edge.sp - 2#16) = true ∧ edge.sp - 1#16 ≠ ifAddr ∧ edge.sp - 2#16 ≠ ifAddr := by
  decide

theorem test_witness_ReturnComesBackFromCall :
    edge.bus = ram [] ∧ Memory.wf [] = true ∧ edge.canPush edge.pc = true ∧ edge.canRead (edge.sp - 1#16) = true ∧
      edge.canRead (edge.sp - 2#16) = true ∧ edge.sp - 1#16 ≠ ifAddr ∧ edge.sp - 2#16 ≠ ifAddr := by
  decide

theorem test_witness_StackPointerDisplacement : edge.unset.sp = false := by decide

/-- The three operand forms; A and F hold values. -/
theorem test_witness_AddByte :
    edge.srcReady (.reg .a) = true ∧ edge.srcReady .indHl = true ∧ edge.srcReady (.imm 0xFF#8) = true ∧
      edge.unset.a = false ∧ edge.unset.f = false := by
  decide

theorem test_witness_SubtractByte :
    edge.srcReady (.reg .b) = true ∧ edge.srcReady .indHl = true ∧ edge.srcReady (.imm 0x00#8) = true ∧
      edge.unset.a = false ∧ edge.unset.f = false := by
  decide

theorem test_witness_LogicByte :
    edge.srcReady (.reg .l) = true ∧ edge.srcReady .indHl = true ∧ edge.srcReady (.imm 0xFF#8) = true ∧
      edge.unset.a = false := by
  decide

theorem test_witness_IncrementDecrementByte :
    edge.opndReady (.reg .h) = true ∧ edge.opndStorable (.reg .h) 0x00#8 = true ∧ edge.opndReady .indHl = true ∧
      (edge.afterOpnd .indHl).opndStorable .indHl 0x00#8 = true ∧
      (edge.afterOpnd .indHl).opndStorable .indHl 0xFE#8 = true ∧ edge.opnd .indHl = 0xFF#8 ∧ edge.unset.f = false := by
  decide

theorem test_witness_DecimalAdjust : edge.unset.a = false ∧ edge.unset.f = false := by decide

theorem test_witness_DecimalAdjustGivesDecimalDigits : (99 < 100) ∧ (0 < 100) := by decide

theorem test_witness_AccumulatorAndCarry : edge.unset.f = false ∧ edge.unset.a = false := by decide

theorem test_witness_RotateAccumulator : edge.unset.a = false ∧ edge.unset.f = false := by decide

/-- RL needs F; SLA does not, so it runs on a machine whose F is UNDEF. -/
theorem test_witness_RotateAndShift :
    (edge.opndReady .indHl = true ∧ (edge.afterOpnd .indHl).opndStorable .indHl 0xFF#8 = true ∧
      (RotOp.rl = .rl ∨ RotOp.rl = .rr → edge.unset.f = false)) ∧
    (let s := powered.setReg .a 0x80#8
     s.opndReady (.reg .a) = true ∧ (s.afterOpnd (.reg .a)).opndStorable (.reg .a) 0x00#8 = true ∧
       (RotOp.sla = .rl ∨ RotOp.sla = .rr → s.unset.f = false)) := by
  decide

theorem test_witness_TestBit : edge.opndReady .indHl = true ∧ edge.opndReady (.reg .a) = true ∧ edge.unset.f = false := by decide

theorem test_witness_ClearAndSetBit :
    edge.opndReady .indHl = true ∧ (edge.afterOpnd .indHl).opndStorable .indHl 0x7F#8 = true ∧
      (edge.afterOpnd .indHl).opndStorable .indHl 0xFF#8 = true ∧ edge.opndReady (.reg .b) = true ∧
      edge.opndStorable (.reg .b) 0xFE#8 = true := by
  decide

/-- Every condition holds and fails somewhere. -/
theorem test_witness_Jumps :
    edge.unset.pair .hl = false ∧ edge.unset.f = false ∧ condHolds .c edge.f = true ∧ condHolds .nz edge.f = true ∧
      condHolds .nc edge.f = false ∧ condHolds .z edge.f = false ∧ condHolds .z 0x80#8 = true ∧
      condHolds .nz 0x80#8 = false ∧ condHolds .nc 0x80#8 = true ∧ condHolds .c 0x80#8 = false := by
  decide

theorem test_witness_Calls :
    edge.canPush edge.pc = true ∧ edge.unset.f = false ∧ condHolds .c edge.f = true ∧ condHolds .z edge.f = false := by
  decide

theorem test_witness_Returns :
    (let s : State := { edge with sp := 0xFFFF#16 }
     s.canPop = true ∧ s.unset.f = false ∧ condHolds .nz s.f = true ∧ condHolds .nc s.f = false) := by
  decide

/-- ime set; nothing requested; the quirk; the fault; both parameters of STOP. -/
theorem test_witness_HaltAndStop :
    ({ edge with ime := true } : State).ime = true ∧
    (edge.ime = false ∧ edge.unset.ie = false ∧ edge.unset.ifr = false ∧ pendingOf edge.ie edge.ifr = 0#5) ∧
    (let s : State := { edge with ifr := 0b10000#5 }
     s.ime = false ∧ s.unset.ie = false ∧ s.unset.ifr = false ∧ pendingOf s.ie s.ifr ≠ 0#5 ∧ s.haltBugPolicy = .reproduce) ∧
    (let s : State := { edge with ifr := 0b00001#5, haltBugPolicy := .fault }
     s.ime = false ∧ s.unset.ie = false ∧ s.unset.ifr = false ∧ pendingOf s.ie s.ifr ≠ 0#5 ∧ s.haltBugPolicy = .fault) ∧
    edge.stopPolicy = .waitJoypad ∧ ({ edge with stopPolicy := .fault } : State).stopPolicy = .fault := by
  decide

/-- The second byte of the store of SP wraps to 0x0000. -/
theorem test_witness_WordLoads :
    edge.unset.pair .hl = false ∧ edge.unset.sp = false ∧ edge.canWrite 0xFFFF#16 0x01#8 = true ∧
      (edge.storeByte 0xFFFF#16 0x01#8).canWrite (0xFFFF#16 + 1#16) 0x00#8 = true := by
  decide

theorem test_witness_WordArithmetic :
    edge.unset.pair Rp.hl.reg16 = false ∧ edge.pair Rp.hl.reg16 = 0xFFFF#16 ∧ edge.unset.pair Rp.sp.reg16 = false ∧
      edge.unset.pair .hl = false ∧ edge.unset.f = false := by
  decide

/-- A push that wraps, a HALT that sets the quirk, and a STOP. -/
theorem test_witness_AccessesAreMadeInOrder :
    (∃ u, edge.walk (accesses .pushBc edge) = .ok u ∧ u.byteAt 0x0000#16 = 0xFF#8 ∧ u.ie = 0x0F#8 ∧
      isIllegal .pushBc = false) ∧
    (∃ u, edge.walk (accesses .halt edge) = .ok u ∧ isIllegal .halt = false ∧ edge.haltBugPolicy = .reproduce) ∧
    (∃ u, edge.walk (accesses (.stop 0xFF#8) edge) = .ok u ∧ isIllegal (.stop 0xFF#8) = false ∧
      edge.stopPolicy = .waitJoypad) :=
  ⟨⟨_, rfl, rfl, rfl, rfl⟩, ⟨_, rfl, rfl, rfl⟩, ⟨_, rfl, rfl, rfl⟩⟩

/-- A pop from SP = 0xFFFF: IE is read, then the bus refuses the byte at 0x0000. -/
theorem test_witness_RefusedReadFaults :
    ∃ s u : State, accesses .popHl s = [.cell .sp, .read 0xFFFF#16] ++ .read 0x0000#16 :: [] ∧
      s.walk [.cell .sp, .read 0xFFFF#16] = .ok u ∧ onBus 0x0000#16 = true ∧ (u.bus.readByte 0x0000#16).1 = none :=
  ⟨{ edge with sp := 0xFFFF#16, bus := .ram { mem := [], readFails := [⟨0, 0⟩], writeFails := [] } }, _,
    rfl, rfl, rfl, rfl⟩

/-- A push whose second byte the bus refuses, and an increment of a byte that may be read but not written. -/
theorem test_witness_RefusedWriteFaults :
    (∃ s u : State, accesses .pushBc s = [.cell .bc, .cell .sp, .write 0x0001#16 0xFF#8] ++ .write 0x0000#16 0x0F#8 :: [] ∧
      s.walk [.cell .bc, .cell .sp, .write 0x0001#16 0xFF#8] = .ok u ∧ onBus 0x0000#16 = true ∧
      (u.bus.writeByte 0x0000#16 0x0F#8).1 = false) ∧
    (∃ s u : State, accesses .incIndHl s = [.cell .hl, .read 0x0000#16] ++ .write 0x0000#16 0x01#8 :: [.cell .f] ∧
      s.walk [.cell .hl, .read 0x0000#16] = .ok u ∧ onBus 0x0000#16 = true ∧
      (u.bus.writeByte 0x0000#16 0x01#8).1 = false) :=
  ⟨⟨{ edge with sp := 0x0002#16, bus := .ram { mem := [], readFails := [], writeFails := [⟨0, 0⟩] } }, _, rfl, rfl, rfl, rfl⟩,
    ⟨{ start with bus := .ram { mem := [], readFails := [], writeFails := [⟨0, 0⟩] } }, _, rfl, rfl, rfl, rfl⟩⟩

/-- The last cell an instruction reads is UNDEF: A after the operand, F after the operand; and a data read of IF and of IE. -/
theorem test_witness_UndefinedReadFaults :
    (∃ s u : State, accesses .sbcAB s = [.cell .f, .cell .b] ++ .cell .a :: [] ∧ s.walk [.cell .f, .cell .b] = .ok u ∧
      u.unset.cell .a = true) ∧
    (∃ s u : State, accesses .addHlSp s = [.cell .sp, .cell .hl] ++ .cell .f :: [] ∧
      s.walk [.cell .sp, .cell .hl] = .ok u ∧ u.unset.cell .f = true) ∧
    (∃ s u : State, accesses (.ldAIndA16 ifAddr) s = [] ++ .read ifAddr :: [] ∧ s.walk [] = .ok u ∧ u.unset.ifr = true) ∧
    (∃ s u : State, accesses (.ldhAIndA8 0xFF#8) s = [] ++ .read ieAddr :: [] ∧ s.walk [] = .ok u ∧ u.unset.ie = true) :=
  ⟨⟨{ powered with unset := { Unset.all with f := false, b := false } }, _, rfl, rfl, rfl⟩,
    ⟨{ powered with unset := { Unset.all with h := false, l := false, sp := false } }, _, rfl, rfl, rfl⟩,
    ⟨powered, _, rfl, rfl, rfl⟩, ⟨powered, _, rfl, rfl, rfl⟩⟩

theorem test_witness_CbByteSelectsTheSecondTable :
    edge.opndReady (opnd8 (field3 0xFE#8 0)) = true ∧ edge.opndReady (opnd8 (field3 0x00#8 0)) = true ∧
      (∀ v, (edge.afterOpnd (opnd8 (field3 0xFE#8 0))).opndStorable (opnd8 (field3 0xFE#8 0)) v = true) ∧
      (∀ v, (edge.afterOpnd (opnd8 (field3 0x00#8 0))).opndStorable (opnd8 (field3 0x00#8 0)) v = true) ∧
      edge.unset.f = false :=
  ⟨rfl, rfl, fun _ => rfl, fun _ => rfl, rfl⟩

end Sys2Proof.Machine
end

section
/-! Progress of the default machine (00_scope.md R9, 60_exceptions.md R230). On a bus that never fails, with every cell
holding a value, no shared operation can raise a fault: `State.Default` is an invariant of every operation under the fault
property `False`, so each one completes. What is left is the instruction itself, which stops only where its opcode is
illegal. -/

namespace Sys2Proof.Machine

/-! ### The default machine as an invariant -/

/-- Another state of the same machine: the default parameters carry over. -/
theorem State.Default.of_sameMap {s t : State} (h : s.Default) (hf : t.fault = s.fault) (hu : t.unset = Unset.none)
    (hb : s.bus.sameMap t.bus) (hq : t.haltBugPolicy = s.haltBugPolicy) (hw : t.stopPolicy = s.stopPolicy) :
    t.Default where
  noFault := hf.trans h.noFault
  allSet := hu
  accepts := fun c hc => h.accepts c (Bus.sameMap_trans hb hc)
  quirk := hq.trans h.quirk
  waits := hw.trans h.waits

section Default

variable {s : State} (h : s.Default)

include h

theorem State.Default.canRead (a : Word) : s.canRead a = true := by
  unfold State.canRead
  rw [h.allSet]
  split
  · rfl
  · split
    · rfl
    · exact (h.accepts s.bus s.bus.sameMap_refl a 0#8).1

theorem State.Default.canWrite (a : Word) (v : Byte) : s.canWrite a v = true := by
  simp [State.canWrite, (h.accepts s.bus s.bus.sameMap_refl a v).2]

theorem State.Default.afterRead (a : Word) : (s.afterRead a).Default :=
  h.of_sameMap (s.afterRead_fault a) ((s.afterRead_unset a).trans h.allSet) (s.sameMap_afterRead a)
    (s.afterRead_haltBugPolicy a) (s.afterRead_stopPolicy a)

theorem State.Default.storeByte (a : Word) (v : Byte) : (s.storeByte a v).Default := by
  refine h.of_sameMap (s.storeByte_fault a v) ?_ (s.sameMap_storeByte a v) (s.storeByte_haltBugPolicy a v)
    (s.storeByte_stopPolicy a v)
  have hu := h.allSet
  unfold State.storeByte
  split
  · simp [State.setIf, hu, Unset.none]
  · split
    · simp [State.setIe, hu, Unset.none]
    · exact hu

theorem State.Default.setReg (r : Reg8) (v : Byte) : (s.setReg r v).Default := by
  refine h.of_sameMap (s.setReg_fault r v) ?_ (by rw [s.setReg_bus]; exact s.bus.sameMap_refl) (s.setReg_haltBugPolicy r v)
    (s.setReg_stopPolicy r v)
  have hu := h.allSet
  cases r <;> simp [State.setReg, hu, Unset.none]

theorem State.Default.setF (v : Byte) : (s.setF v).Default :=
  h.of_sameMap rfl (by simp [State.setF, h.allSet, Unset.none]) s.bus.sameMap_refl rfl rfl

theorem State.Default.setSp (v : Word) : (s.setSp v).Default :=
  h.of_sameMap rfl (by simp [State.setSp, h.allSet, Unset.none]) s.bus.sameMap_refl rfl rfl

/-- The cells of the boundary, the counter and PC are free. -/
theorem State.Default.control {pc stepPc : Word} {ime eiPending halted haltBug stopped : Bool} {cycles : BitVec 64}
    {ifr : BitVec 5} :
    State.Default { s with pc := pc, stepPc := stepPc, ime := ime, eiPending := eiPending, halted := halted,
                           haltBug := haltBug, stopped := stopped, cycles := cycles, ifr := ifr } :=
  ⟨h.noFault, h.allSet, h.accepts, h.quirk, h.waits⟩

theorem State.Default.tick (n : Nat) : (s.tick n).Default := h.control

theorem State.Default.begin : s.begin.Default := h.control

theorem State.Default.reg_set (r : Reg8) : s.unset.reg r = false := by
  rw [h.allSet]; cases r <;> rfl

theorem State.Default.pair_set (p : Reg16) : s.unset.pair p = false := by
  rw [h.allSet]; cases p <;> rfl

theorem State.Default.eiEpilogue (delay : Bool) : (s.eiEpilogue delay).Default := by
  unfold State.eiEpilogue
  split
  · exact h.control
  · exact h

end Default

/-- The default machine meets no fault of a shared operation, of HALT or of STOP: it is kept under any fault property. -/
theorem default_allowsStep (P : Fault → Prop) : AllowsStep State.Default P where
  reg _ r v h := h.setReg r v
  f _ v h := h.setF v
  sp _ v h := h.setSp v
  pc _ _ h := h.control
  load _ a h _ := h.afterRead a
  store _ a v h _ := h.storeByte a v
  undefReg _ r h hu := by simp [h.reg_set r] at hu
  undefPair _ p h hu := by simp [h.pair_set p] at hu
  undefF _ h hu := by simp [h.allSet, Unset.none] at hu
  undefIf _ h hu := by simp [h.allSet, Unset.none] at hu
  undefIe _ h hu := by simp [h.allSet, Unset.none] at hu
  busRead _ a h hr _ := by simp [h.canRead a] at hr
  busWrite _ a v h hw _ := by simp [h.canWrite a v] at hw
  di _ h := h.control
  ei _ h := h.control
  reti _ h := h.control
  halt _ h := h.control
  haltBug _ h _ := h.control
  stop _ h _ := h.control
  haltFault _ h hq := by simp [h.quirk] at hq
  stopFault _ h hq := by simp [h.waits] at hq
  leaveStop _ h := h.control
  leaveHalt _ h := h.control
  usedQuirk _ h := h.control
  serve _ _ h := h.control

/-- An operation that may raise no fault completes. -/
theorem Op.Guards.completes {α : Type} {I : State → Prop} {op : Op α} (h : op.Guards I fun _ => False) {s : State}
    (hs : I s) : ∃ a t, op s = .ok a t ∧ I t := by
  cases hop : op s with
  | ok a t => exact ⟨a, t, rfl, (h s hs).1 a t hop⟩
  | error f t => exact ((h s hs).2 f t hop).elim

/-- Such an operation answers a next state. -/
theorem Op.Guards.runOp_default {op : Op Nat} (h : op.Guards State.Default fun _ => False) {s : State} (hs : s.Default) :
    ∃ t, Machine.runOp op s = .next t ∧ t.Default := by
  obtain ⟨n, t, hop, ht⟩ := h.completes hs
  exact ⟨t.tick n, (runOp_next_iff op s _).mpr ⟨n, t, hop, rfl⟩, ht.tick n⟩

/-! ### One instruction -/

/-- An illegal opcode is the whole instruction. -/
theorem illegalOpcodes_length : ∀ op ∈ illegalOpcodes, op ≠ 0xCB#8 ∧ baseLength op = 1 := by decide

/-- Where the fetch answers an illegal row, the byte at PC is its opcode and the only byte read. -/
theorem fetchInstr_illegal {s t : State} {i : Instr} {op : Byte} (h : fetchInstr s = .ok i t)
    (hi : shapeOf i = .illegal op) :
    s.byteAt s.pc ∈ illegalOpcodes ∧ op = s.byteAt s.pc ∧ t = (s.afterRead s.pc).afterFetch := by
  obtain ⟨-, ⟨-, op2, rfl⟩ | ⟨-, b1, b2, hd⟩⟩ := fetchInstr_opcode h
  · exact absurd hi (decodeCb_legal op2 op)
  · have hop := decodeBase_illegalOpcode (s.byteAt s.pc) b1 b2
    rw [← hd, hi] at hop
    have hmem : s.byteAt s.pc ∈ illegalOpcodes := by
      by_contra hn
      simp [Shape.illegalOpcode, hn] at hop
    have heq : op = s.byteAt s.pc := by simpa [Shape.illegalOpcode, hmem] using hop
    obtain ⟨hcb, hlen⟩ := illegalOpcodes_length _ hmem
    obtain ⟨-, ⟨hc, -⟩ | ⟨-, -, -, ht⟩ | ⟨-, hl, -⟩ | ⟨-, hl, -⟩⟩ := (fetchInstr_ok_iff s t i).mp h
    · exact absurd hc hcb
    · exact ⟨hmem, heq, ht⟩
    · simp [hlen] at hl
    · exact absurd hlen hl

/-- An illegal opcode's meaning is its DecodeFault (60_exceptions.md R231). -/
theorem runOp_illegalOpcode (opcode : Byte) (s : State) :
    runOp (illegalOpcode opcode) s = .fault (.decodeFault s.stepPc opcode s.cycles s.bus) :=
  (runOp_fault_iff _ _ _).mpr ⟨s, (illegalOpcode_error_iff _ _ _ _).mpr ⟨rfl, rfl⟩⟩

/-- The moved PC and the used-up quirk leave the cells a DecodeFault names. -/
theorem State.afterFetch_names (s : State) :
    s.afterFetch.stepPc = s.stepPc ∧ s.afterFetch.cycles = s.cycles ∧ s.afterFetch.bus = s.bus := by
  unfold State.afterFetch
  split <;> exact ⟨rfl, rfl, rfl⟩

/-- An instruction of the default machine completes, or its opcode is illegal and is all it reads. -/
theorem execOne_default {s : State} (h : s.Default) :
    (∃ t, execOne exec s = .next t ∧ t.Default) ∨
    (s.byteAt s.pc ∈ illegalOpcodes ∧
      execOne exec s = .fault (.decodeFault s.stepPc (s.byteAt s.pc) s.cycles (s.afterRead s.pc).bus)) := by
  obtain ⟨i, u, hfetch, hu⟩ := (fetchInstr_guards (default_allowsStep _)).completes h
  unfold execOne
  simp only [hfetch, exec_shape]
  by_cases hill : ∃ op, shapeOf i = .illegal op
  · obtain ⟨op, hop⟩ := hill
    obtain ⟨hmem, rfl, rfl⟩ := fetchInstr_illegal hfetch hop
    obtain ⟨hpc, hcycles, hbus⟩ := (s.afterRead s.pc).afterFetch_names
    refine .inr ⟨hmem, ?_⟩
    rw [hop, Shape.op, runOp_illegalOpcode, hpc, hcycles, hbus, State.afterRead_stepPc, State.afterRead_cycles]
    rfl
  · have hguards := shape_guards (default_allowsStep fun _ => False).toAllowsAll (shapeOf i)
      fun op hop => (hill ⟨op, hop⟩).elim
    obtain ⟨t, hrun, ht⟩ := hguards.runOp_default hu
    rw [hrun]
    exact .inl ⟨_, rfl, ht.eiEpilogue _⟩

/-! ### The whole step -/

/-- Waking and noting PC change nothing of what a read does to the bus. -/
theorem State.begin_awake_afterRead_bus (s : State) (a : Word) :
    (s.begin.awake.afterRead a).bus = (s.afterRead a).bus := by
  unfold State.afterRead
  split
  · rfl
  · split <;> rfl

/-- Settles O12: no boundary check can fault; then an idle step and an interrupt service complete, and an instruction
completes unless its opcode is illegal. -/
theorem onlyIllegalOpcodesStopTheDefaultMachine : Obligations.OnlyIllegalOpcodesStopTheDefaultMachine := by
  unfold Obligations.OnlyIllegalOpcodesStopTheDefaultMachine
  intro s h
  obtain ⟨b, u, hb, hu⟩ := (boundary_guards (default_allowsStep _)).completes h.begin
  rw [step_body h.noFault]
  unfold stepBody
  rw [hb]
  cases b with
  | idle => exact .inl ⟨_, rfl, hu.tick _⟩
  | service => exact .inl ((service_guards (default_allowsStep _)).runOp_default hu)
  | instruction =>
    obtain ⟨rfl, -⟩ := boundary_busy hb (by simp)
    rw [← s.begin_awake_afterRead_bus]
    exact execOne_default hu

end Sys2Proof.Machine
end

section
/-! The pairs of registers and the state after reset (10_state.md R21, R22, R43), the registers and control cells an
instruction leaves alone (R42), the cells that stay defined and the reads that stop at an UNDEF cell (R44), and the
invariant of the machine, at reset and over every step. -/

namespace Sys2Proof.Machine

/-! ### Pairs and reset -/

/-- The low nibble that F drops is the low nibble of the word written to AF. -/
theorem word16_mask_low_nibble (v : Word) : word16 (hiByte v) (loByte v &&& 0xF0#8) = v &&& 0xFFF0#16 := by
  have hmask : (0xFFF0#16 : Word) = 0xFF#8 ++ 0xF0#8 := by decide
  have hhi : hiByte v &&& 0xFF#8 = hiByte v := BitVec.and_allOnes
  calc word16 (hiByte v) (loByte v &&& 0xF0#8)
      = (hiByte v &&& 0xFF#8) ++ (loByte v &&& 0xF0#8) := by rw [hhi]; rfl
    _ = word16 (hiByte v) (loByte v) &&& 0xFFF0#16 := by rw [hmask, word16, BitVec.and_append]
    _ = v &&& 0xFFF0#16 := by rw [word16_hi_lo]

/-- AF reads back what was written to it, but for the low nibble of F. -/
theorem State.setPair_pair_af (s : State) (v : Word) : (s.setPair .af v).pair .af = v &&& 0xFFF0#16 := by
  have hread : (s.setPair .af v).pair .af = word16 (hiByte v) ((loByte v &&& 0xF0#8) &&& 0xF0#8) := rfl
  rw [hread, BitVec.and_assoc, BitVec.and_self, word16_mask_low_nibble]

/-- Settles O33: a pair is its two halves by definition; what is left is that the halves of a word make it up again. -/
theorem pairWrite : Obligations.PairWrite := by
  unfold Obligations.PairWrite
  intro s v
  exact ⟨⟨rfl, rfl, rfl, rfl⟩, ⟨rfl, rfl⟩, ⟨rfl, rfl⟩, ⟨rfl, rfl⟩, ⟨rfl, rfl⟩,
    word16_hi_lo v, word16_hi_lo v, word16_hi_lo v, s.setPair_pair_af v⟩

/-- Settles O32: every cell is the one `State.resetWith` writes for the profile. -/
theorem resetValues : Obligations.ResetValues := by
  unfold Obligations.ResetValues
  intro hb sp b
  have hbc : word16 0x00#8 0x13#8 = 0x0013#16 := by decide
  have hde : word16 0x00#8 0xD8#8 = 0x00D8#16 := by decide
  have hhl : word16 0x01#8 0x4D#8 = 0x014D#16 := by decide
  constructor
  · simp [State.resetWith, resetF, State.pair, hbc, hde, hhl]
  · simp [State.resetWith]

/-! ### What a shape leaves alone: SP, PC and the cells of the boundary -/

/-- The shapes that write SP (10_state.md R29). -/
def Shape.writesSp : Shape → Bool
  | .ldRp .sp _ _ | .incRp .sp _ | .decRp .sp _ | .ldSpHl _ | .addSp _ _ | .push _ _ | .pop _ _ | .call _ _
  | .callCc _ _ _ _ | .ret _ | .retCc _ _ _ | .reti _ | .rst _ _ => true
  | _ => false

/-- The shapes that set PC: the jumps, calls and returns (10_state.md R42). -/
def Shape.writesPc : Shape → Bool
  | .jp _ _ | .jpCc _ _ _ _ | .jpHl _ | .jr _ _ | .jrCc _ _ _ _ | .call _ _ | .callCc _ _ _ _ | .ret _
  | .retCc _ _ _ | .reti _ | .rst _ _ => true
  | _ => false

/-- The shapes that write ime and ei_pending (10_state.md R31, R32). -/
def Shape.writesIme : Shape → Bool
  | .di _ | .ei _ | .reti _ => true
  | _ => false

/-- The shape that writes halted and halt_bug (10_state.md R33, R34). -/
def Shape.writesHalted : Shape → Bool
  | .halt _ => true
  | _ => false

/-- The shape that writes stopped (10_state.md R35). -/
def Shape.writesStopped : Shape → Bool
  | .stop _ => true
  | _ => false

theorem writesSp_shape (i : Instr) : writesSp i = (shapeOf i).writesSp := by
  cases i
  case prefixCb op2 =>
    show false = (cbShape op2).writesSp
    unfold cbShape
    cases field2 op2 6 <;> rfl
  all_goals rfl

theorem writesPc_shape (i : Instr) : writesPc i = (shapeOf i).writesPc := by
  cases i
  case prefixCb op2 =>
    show false = (cbShape op2).writesPc
    unfold cbShape
    cases field2 op2 6 <;> rfl
  all_goals rfl

/-- A CB instruction writes no cell of the boundary. -/
theorem cbShape_boundary (op2 : Byte) :
    (cbShape op2).writesIme = false ∧ (cbShape op2).writesHalted = false ∧ (cbShape op2).writesStopped = false := by
  unfold cbShape
  cases field2 op2 6 <;> exact ⟨rfl, rfl, rfl⟩

/-- The only instructions with a shape that writes a cell of the boundary. -/
theorem shapeOf_boundary (i : Instr) :
    (i ≠ .di → i ≠ .ei → i ≠ .reti → (shapeOf i).writesIme = false) ∧
    (i ≠ .halt → (shapeOf i).writesHalted = false) ∧ ((∀ x, i ≠ .stop x) → (shapeOf i).writesStopped = false) := by
  cases i
  case di => exact ⟨fun h => absurd rfl h, fun _ => rfl, fun _ => rfl⟩
  case ei => exact ⟨fun _ h => absurd rfl h, fun _ => rfl, fun _ => rfl⟩
  case reti => exact ⟨fun _ _ h => absurd rfl h, fun _ => rfl, fun _ => rfl⟩
  case halt => exact ⟨fun _ _ _ => rfl, fun h => absurd rfl h, fun _ => rfl⟩
  case stop x => exact ⟨fun _ _ _ => rfl, fun _ => rfl, fun h => absurd rfl (h x)⟩
  case prefixCb op2 =>
    obtain ⟨hime, hhalted, hstopped⟩ := cbShape_boundary op2
    exact ⟨fun _ _ _ => hime, fun _ => hhalted, fun _ => hstopped⟩
  all_goals exact ⟨fun _ _ _ => rfl, fun _ => rfl, fun _ => rfl⟩

theorem State.setPair_sp (s : State) {p : Reg16} (v : Word) (h : p ≠ .sp) : (s.setPair p v).sp = s.sp := by
  cases p <;> simp [State.setPair] at h ⊢

/-- A shape that does not write SP leaves it alone. -/
theorem shape_sp (x : Shape) (s : State) (h : x.writesSp = false) : (x.after s).sp = s.sp := by
  cases x
  case ldRp p _ _ | incRp p _ | decRp p _ => cases p <;> simp [Shape.writesSp] at h <;> exact s.setPair_sp _ (by decide)
  case alu op _ _ => cases op <;> simp [Shape.after, State.afterAlu]
  case jpCc | jrCc | halt => simp only [Shape.after]; split <;> rfl
  case ldSpHl | addSp | push | pop | call | callCc | ret | retCc | reti | rst => simp [Shape.writesSp] at h
  all_goals simp [Shape.after, State.setPair_sp]

/-- A shape that does not set PC leaves it alone. -/
theorem shape_pc (x : Shape) (s : State) (h : x.writesPc = false) : (x.after s).pc = s.pc := by
  cases x
  case alu op _ _ => cases op <;> simp [Shape.after, State.afterAlu]
  case halt => simp only [Shape.after]; split <;> rfl
  case jp | jpCc | jpHl | jr | jrCc | call | callCc | ret | retCc | reti | rst => simp [Shape.writesPc] at h
  all_goals simp [Shape.after]

/-- What a shape leaves alone of the cells of the boundary. -/
theorem shape_boundary (x : Shape) (s : State) :
    (x.writesIme = false → (x.after s).ime = s.ime ∧ (x.after s).eiPending = s.eiPending) ∧
    (x.writesHalted = false → (x.after s).halted = s.halted ∧ (x.after s).haltBug = s.haltBug) ∧
    (x.writesStopped = false → (x.after s).stopped = s.stopped) := by
  cases x
  case alu op _ _ => cases op <;> simp [Shape.after, State.afterAlu]
  case jpCc | jrCc | callCc | retCc => simp only [Shape.after]; split <;> simp
  case halt => simp only [Shape.after]; split <;> simp [Shape.writesHalted]
  all_goals simp [Shape.after, Shape.writesIme, Shape.writesStopped]

/-- Settles O20: by the shape of the instruction, whose effect is a chain of updates that touch its destinations only. -/
theorem registerFrame : Obligations.RegisterFrame := by
  unfold Obligations.RegisterFrame
  intro i s t h
  obtain ⟨-, rfl⟩ := (exec_next_iff i s t).mp h
  rw [destRegs_shape, writesSp_shape, writesPc_shape]
  refine ⟨fun r hr => ?_, fun hw => ?_, fun hw => ?_⟩
  · rw [State.tick_reg, shape_reg _ s hr]
  · rw [State.tick_sp, shape_sp _ s hw]
  · rw [State.tick_pc, shape_pc _ s hw]

/-! ### Invariants with free control cells -/

/-- An invariant that every write of a register or of memory keeps, and that does not depend on PC, the counter, IF's value
or the cells of the boundary. -/
structure Keeps (I : State → Prop) : Prop where
  reg : ∀ s r v, I s → I (s.setReg r v)
  f : ∀ s v, I s → I (s.setF v)
  sp : ∀ s v, I s → I (s.setSp v)
  load : ∀ s a, I s → I (s.afterRead a)
  store : ∀ s a v, I s → I (s.storeByte a v)
  control : ∀ {s pc ime eiPending halted haltBug stopped cycles ifr}, I s →
    I { s with pc := pc, ime := ime, eiPending := eiPending, halted := halted, haltBug := haltBug, stopped := stopped,
               cycles := cycles, ifr := ifr }

section Keeps

variable {I : State → Prop} (h : Keeps I)

include h

theorem Keeps.allowsStep : AllowsStep I fun _ => True where
  reg := h.reg
  f := h.f
  sp := h.sp
  pc _ _ hs := h.control hs
  load s a hs _ := h.load s a hs
  store s a v hs _ := h.store s a v hs
  undefReg _ _ _ _ := trivial
  undefPair _ _ _ _ := trivial
  undefF _ _ _ := trivial
  undefIf _ _ _ := trivial
  undefIe _ _ _ := trivial
  busRead _ _ _ _ _ := trivial
  busWrite _ _ _ _ _ _ := trivial
  di _ hs := h.control hs
  ei _ hs := h.control hs
  reti _ hs := h.control hs
  halt _ hs := h.control hs
  haltBug _ hs _ := h.control hs
  stop _ hs _ := h.control hs
  haltFault _ _ _ := trivial
  stopFault _ _ _ := trivial
  leaveStop _ hs := h.control hs
  leaveHalt _ hs := h.control hs
  usedQuirk _ hs := h.control hs
  serve _ _ hs := h.control hs

/-- Every instruction that answers a next state keeps such an invariant. -/
theorem Keeps.exec {i : Instr} {s t : State} (hs : I s) (he : exec i s = .next t) : I t :=
  exec_keeps h.allowsStep.toAllowsAll (fun _ _ hu => h.control hu) hs he

/-- So does every step, from the state in which it notes where it began. -/
theorem Keeps.step {s t : State} (hs : I s.begin) (he : step s = .next t) : I t :=
  (step_guards h.allowsStep (fun _ _ hu => h.control hu) (fun _ hu => h.control hu)
    (step_next he).1 hs fun _ _ _ _ _ _ _ => trivial).1 t he

end Keeps

/-! ### The latch, the parameters and the permissions of the bus -/

/-- `t` is a later state of the machine `s`: the same latch, parameters and place of the step, on the same bus. -/
structure State.SameMachine (s t : State) : Prop where
  fault : t.fault = s.fault
  stepPc : t.stepPc = s.stepPc
  map : s.bus.sameMap t.bus
  quirk : t.haltBugPolicy = s.haltBugPolicy
  stop : t.stopPolicy = s.stopPolicy

theorem State.SameMachine.refl (s : State) : s.SameMachine s := ⟨rfl, rfl, s.bus.sameMap_refl, rfl, rfl⟩

theorem State.SameMachine.trans {s t u : State} (h1 : s.SameMachine t) (h2 : t.SameMachine u) : s.SameMachine u where
  fault := h2.fault.trans h1.fault
  stepPc := h2.stepPc.trans h1.stepPc
  map := Bus.sameMap_trans h1.map h2.map
  quirk := h2.quirk.trans h1.quirk
  stop := h2.stop.trans h1.stop

theorem State.sameMachine_setReg (s : State) (r : Reg8) (v : Byte) : s.SameMachine (s.setReg r v) := by
  cases r <;> exact ⟨rfl, rfl, s.bus.sameMap_refl, rfl, rfl⟩

theorem State.sameMachine_afterRead (s : State) (a : Word) : s.SameMachine (s.afterRead a) :=
  ⟨s.afterRead_fault a, s.afterRead_stepPc a, s.sameMap_afterRead a, s.afterRead_haltBugPolicy a, s.afterRead_stopPolicy a⟩

theorem State.sameMachine_storeByte (s : State) (a : Word) (v : Byte) : s.SameMachine (s.storeByte a v) :=
  ⟨s.storeByte_fault a v, s.storeByte_stepPc a v, s.sameMap_storeByte a v, s.storeByte_haltBugPolicy a v,
    s.storeByte_stopPolicy a v⟩

/-- Every update an instruction makes leaves the machine the same, wherever it began. -/
theorem sameMachine_keeps (s : State) : Keeps s.SameMachine where
  reg u r v h := h.trans (u.sameMachine_setReg r v)
  f _ _ h := ⟨h.fault, h.stepPc, h.map, h.quirk, h.stop⟩
  sp _ _ h := ⟨h.fault, h.stepPc, h.map, h.quirk, h.stop⟩
  load u a h := h.trans (u.sameMachine_afterRead a)
  store u a v h := h.trans (u.sameMachine_storeByte a v)
  control h := ⟨h.fault, h.stepPc, h.map, h.quirk, h.stop⟩

/-- Settles O23: the cells of the boundary by the shape of the instruction, the rest because every update leaves the machine
the same. -/
theorem controlFrame : Obligations.ControlFrame := by
  unfold Obligations.ControlFrame
  intro i s t h
  obtain ⟨hfault, hstepPc, hmap, hquirk, hstop⟩ := (sameMachine_keeps s).exec (.refl s) h
  obtain ⟨hime, hhalted, hstopped⟩ := shapeOf_boundary i
  obtain ⟨-, rfl⟩ := (exec_next_iff i s t).mp h
  obtain ⟨fime, fhalted, fstopped⟩ := shape_boundary (shapeOf i) s
  exact ⟨fun h1 h2 h3 => fime (hime h1 h2 h3), fun h1 => fhalted (hhalted h1), fun h1 => fstopped (hstopped h1),
    hfault, hstepPc, hmap, hquirk, hstop⟩

/-! ### Cells that hold a value -/

/-- Every register, F, SP, IF and IE that holds a value in `s` holds one in `t`. -/
structure State.DefinedIn (s t : State) : Prop where
  reg : ∀ r, s.unset.reg r = false → t.unset.reg r = false
  f : s.unset.f = false → t.unset.f = false
  sp : s.unset.sp = false → t.unset.sp = false
  ifr : s.unset.ifr = false → t.unset.ifr = false
  ie : s.unset.ie = false → t.unset.ie = false

/-- A write of the address space gives IF or IE a value, or changes no mark. -/
theorem State.DefinedIn.storeByte {s t : State} (h : s.DefinedIn t) (a : Word) (v : Byte) : s.DefinedIn (t.storeByte a v) := by
  unfold State.storeByte
  split
  · exact ⟨h.reg, h.f, h.sp, fun _ => rfl, h.ie⟩
  · split
    · exact ⟨h.reg, h.f, h.sp, h.ifr, fun _ => rfl⟩
    · exact ⟨h.reg, h.f, h.sp, h.ifr, h.ie⟩

theorem State.DefinedIn.setReg {s t : State} (h : s.DefinedIn t) (r : Reg8) (v : Byte) : s.DefinedIn (t.setReg r v) where
  reg q hq := by
    rw [State.setReg_unset_reg]
    split
    · rfl
    · exact h.reg q hq
  f hf := (t.setReg_unset_f r v).trans (h.f hf)
  sp hs := (t.setReg_unset_sp r v).trans (h.sp hs)
  ifr hi := (t.setReg_unset_ifr r v).trans (h.ifr hi)
  ie hi := (t.setReg_unset_ie r v).trans (h.ie hi)

/-- A write takes the mark of its cell away, and nothing else touches a mark. -/
theorem definedIn_keeps (s : State) : Keeps s.DefinedIn where
  reg _ r v h := h.setReg r v
  f _ _ h := ⟨h.reg, fun _ => rfl, h.sp, h.ifr, h.ie⟩
  sp _ _ h := ⟨h.reg, h.f, fun _ => rfl, h.ifr, h.ie⟩
  load u a h := by
    have hu := u.afterRead_unset a
    exact ⟨hu ▸ h.reg, hu ▸ h.f, hu ▸ h.sp, hu ▸ h.ifr, hu ▸ h.ie⟩
  store _ a v h := h.storeByte a v
  control h := ⟨h.reg, h.f, h.sp, h.ifr, h.ie⟩

/-- Settles O24: a step is made of updates that only take marks away. -/
theorem cellsStayDefined : Obligations.CellsStayDefined := by
  unfold Obligations.CellsStayDefined
  intro s t h
  obtain ⟨hreg, hf, hsp, hif, hie⟩ := (definedIn_keeps s).step ⟨fun _ h => h, id, id, id, id⟩ h
  exact ⟨hreg, hf, hsp, hif, hie⟩

/-! ### Reads of an UNDEF cell -/

theorem State.canRead_if (s : State) : s.canRead ifAddr = !s.unset.ifr := rfl

theorem State.canRead_ie (s : State) : s.canRead ieAddr = !s.unset.ie := rfl

/-- An instruction stops at the first access that does not succeed, with the fault of that access. -/
theorem exec_refused {i : Instr} {s u : State} {before after : List Access} {x : Access}
    (hl : accesses i s = before ++ x :: after) (hw : s.walk before = .ok u) (hx : u.allows x = false) :
    exec i s = .fault (u.refusal x) := by
  refine exec_walk_error ?_
  rw [hl]
  exact State.walk_refused hw hx

/-- Settles O28: an access that needs an UNDEF cell does not succeed, so the instruction stops there, and the place of the
step is still that of the first access. -/
theorem undefinedReadFaults : Obligations.UndefinedReadFaults := by
  unfold Obligations.UndefinedReadFaults
  intro i s u before after x hl hw
  have hpc : u.stepPc = s.stepPc := State.walk_stepPc hw
  rw [← hpc]
  refine ⟨?_, ?_, ?_⟩
  · rintro q rfl hq
    exact exec_refused hl hw (by simp [State.allows, hq])
  · rintro rfl hq
    exact exec_refused hl hw (by simp [State.allows, State.canRead_if, hq])
  · rintro rfl hq
    exact exec_refused hl hw (by simp [State.allows, State.canRead_ie, hq])

/-! ### The invariant in two parts -/

/-- The part of the invariant that every named update keeps by itself. -/
structure State.Sound (s : State) : Prop where
  busWf : s.bus.wf = true
  lowNibble : s.f &&& 0x0F#8 = 0#8
  noFault : s.fault = none

/-- The part of the invariant about halted, stopped and halt_bug, which HALT and STOP keep only from a state with none of
the three (60_exceptions.md R257). -/
structure State.Exclusive (s : State) : Prop where
  haltedOnly : s.halted = true → s.stopped = false ∧ s.haltBug = false
  stoppedOnly : s.stopped = true → s.halted = false ∧ s.haltBug = false
  quirkAllowed : s.haltBug = true → s.haltBugPolicy = .reproduce
  stopAllowed : s.stopped = true → s.stopPolicy = .waitJoypad

theorem State.inv_iff (s : State) : s.Inv ↔ s.Sound ∧ s.Exclusive :=
  ⟨fun h => ⟨⟨h.busWf, h.lowNibble, h.noFault⟩, ⟨h.haltedOnly, h.stoppedOnly, h.quirkAllowed, h.stopAllowed⟩⟩,
    fun ⟨hs, he⟩ =>
      ⟨hs.busWf, hs.lowNibble, hs.noFault, he.haltedOnly, he.stoppedOnly, he.quirkAllowed, he.stopAllowed⟩⟩

/-- None of halted, stopped and halt_bug is set: the state in which an instruction is executed. -/
structure State.Plain (s : State) : Prop where
  notHalted : s.halted = false
  notStopped : s.stopped = false
  noQuirk : s.haltBug = false

theorem State.Plain.exclusive {s : State} (h : s.Plain) : s.Exclusive where
  haltedOnly _ := ⟨h.notStopped, h.noQuirk⟩
  stoppedOnly _ := ⟨h.notHalted, h.noQuirk⟩
  quirkAllowed hq := by simp [h.noQuirk] at hq
  stopAllowed hs := by simp [h.notStopped] at hs

/-- The reset value of F has no low nibble, whatever the header checksum byte is. -/
theorem resetF_lowNibble (b : Bus) : resetF b &&& 0x0F#8 = 0#8 := by
  unfold resetF
  split <;> rfl

/-- Settles O29: reset clears the latch and the three cells, and F's low nibble is 0 in either profile. -/
theorem resetMeetsTheInvariant : Obligations.ResetMeetsTheInvariant := by
  unfold Obligations.ResetMeetsTheInvariant
  intro p hb sp b hwf
  rw [State.inv_iff]
  cases p with
  | postBootDmg => exact ⟨⟨hwf, resetF_lowNibble b, rfl⟩, State.Plain.exclusive ⟨rfl, rfl, rfl⟩⟩
  | powerOn => exact ⟨⟨hwf, BitVec.zero_and, rfl⟩, State.Plain.exclusive ⟨rfl, rfl, rfl⟩⟩

/-! ### The invariant over a step -/

/-- F is written with its low nibble cleared, and the bus keeps its array in canonical form. -/
theorem sound_keeps : Keeps State.Sound where
  reg s r v h :=
    ⟨(s.setReg_bus r v).symm ▸ h.busWf, (s.setReg_f r v).symm ▸ h.lowNibble, (s.setReg_fault r v).trans h.noFault⟩
  f s v h := ⟨h.busWf, by rw [State.setF_f, BitVec.and_assoc]; exact BitVec.and_zero, h.noFault⟩
  sp _ _ h := ⟨h.busWf, h.lowNibble, h.noFault⟩
  load s a h := ⟨s.afterRead_wf a h.busWf, (s.afterRead_f a).symm ▸ h.lowNibble, (s.afterRead_fault a).trans h.noFault⟩
  store s a v h :=
    ⟨s.storeByte_wf a v h.busWf, (s.storeByte_f a v).symm ▸ h.lowNibble, (s.storeByte_fault a v).trans h.noFault⟩
  control h := ⟨h.busWf, h.lowNibble, h.noFault⟩

/-- A shape that is neither HALT nor STOP leaves a plain state plain; HALT sets one of halted and halt_bug, STOP sets stopped,
each under its parameter. -/
theorem shape_exclusive {x : Shape} {s : State} (hs : s.Plain) (hr : x.ready s) : (x.after s).Exclusive := by
  obtain ⟨-, hhalted, hstopped⟩ := shape_boundary x s
  cases x
  case halt n =>
    simp only [Shape.after]
    split
    case isTrue =>
      exact ⟨fun _ => ⟨hs.notStopped, hs.noQuirk⟩, fun h => by simp [hs.notStopped] at h, hs.exclusive.quirkAllowed,
        hs.exclusive.stopAllowed⟩
    case isFalse hbusy =>
      rw [not_or, Bool.not_eq_true] at hbusy
      obtain ⟨-, -, hquirk⟩ := hr hbusy.1
      exact ⟨fun h => by simp [hs.notHalted] at h, fun h => by simp [hs.notStopped] at h,
        fun _ => hquirk.resolve_left hbusy.2, hs.exclusive.stopAllowed⟩
  case stop n =>
    exact ⟨fun h => by simp [Shape.after, hs.notHalted] at h, fun _ => ⟨hs.notHalted, hs.noQuirk⟩,
      hs.exclusive.quirkAllowed, fun _ => hr⟩
  all_goals
    exact State.Plain.exclusive ⟨(hhalted rfl).1.trans hs.notHalted, (hstopped rfl).trans hs.notStopped,
      (hhalted rfl).2.trans hs.noQuirk⟩

/-- The fetch of an instruction by a core that is awake ends in a plain state. -/
theorem fetchInstr_plain {s t : State} {i : Instr} (h : fetchInstr s.awake = .ok i t) : t.Plain := by
  obtain ⟨⟨_, _, _, _, rfl⟩, hquirk⟩ := fetchInstr_ok h
  exact ⟨rfl, rfl, hquirk⟩

/-- An interrupt service that completes has pushed from the state with the source cleared, and jumped (60_exceptions.md
R240). -/
theorem service_ok {s t : State} {n : Nat} (h : service s = .ok n t) :
    t = (s.serving.pushed (serviceReturn s)).setPc (vectorOf (lowestSource (pendingOf s.ie s.ifr))) := by
  simp only [service, Op.bind_ok_iff, readPending_ok_iff, Op.state_ok_iff, Op.update_ok_iff, push16_ok_iff, writePc_ok_iff,
    Op.pure_ok_iff] at h
  obtain ⟨_, _, ⟨_, _, rfl, rfl⟩, _, _, ⟨rfl, rfl⟩, _, _, rfl, _, _, ⟨_, rfl⟩, _, _, rfl, _, rfl⟩ := h
  rfl

/-- An interrupt service of a core that is awake ends in a plain state. -/
theorem runOp_service_plain {s t : State} (h : runOp service s.awake = .next t) : t.Plain := by
  obtain ⟨n, u, hu, rfl⟩ := (runOp_next_iff _ _ _).mp h
  rw [service_ok hu]
  exact ⟨State.pushed_halted _ _, State.pushed_stopped _ _, State.pushed_haltBug _ _⟩

theorem State.Exclusive.tick {s : State} (h : s.Exclusive) (n : Nat) : (s.tick n).Exclusive :=
  ⟨h.haltedOnly, h.stoppedOnly, h.quirkAllowed, h.stopAllowed⟩

/-- The delayed enable writes ime and ei_pending only (60_exceptions.md R244). -/
theorem State.Exclusive.eiEpilogue {s : State} (h : s.Exclusive) (delay : Bool) : (s.eiEpilogue delay).Exclusive := by
  unfold State.eiEpilogue
  split
  · exact ⟨h.haltedOnly, h.stoppedOnly, h.quirkAllowed, h.stopAllowed⟩
  · exact h

/-- Over a step at most one of halted, stopped and halt_bug stays set: an idle step leaves them as they are or wakes from the
stop, and a service or an instruction begins awake. -/
theorem step_exclusive {s t : State} (hs : s.Exclusive) (h : step s = .next t) : t.Exclusive := by
  obtain ⟨-, ⟨-, rfl⟩ | ⟨hhalted, rfl⟩ | ⟨-, -, -, -, hservice⟩ | ⟨i, u, w, -, hfetch, hexec, rfl⟩⟩ := step_next h
  case inl => exact ⟨hs.haltedOnly, hs.stoppedOnly, hs.quirkAllowed, hs.stopAllowed⟩
  case inr.inl =>
    exact ⟨fun _ => ⟨rfl, (hs.haltedOnly hhalted).2⟩, fun hst => absurd hst Bool.false_ne_true, hs.quirkAllowed,
      fun hst => absurd hst Bool.false_ne_true⟩
  case inr.inr.inl => exact (runOp_service_plain hservice).exclusive
  case inr.inr.inr =>
    obtain ⟨hready, rfl⟩ := (exec_next_iff i u w).mp hexec
    exact ((shape_exclusive (fetchInstr_plain hfetch) hready).tick _).eiEpilogue _

/-- Settles O30: the part every update keeps is carried through the step, and the part about halted, stopped and halt_bug by
what each kind of step does to them. -/
theorem stepKeepsTheInvariant : Obligations.StepKeepsTheInvariant := by
  unfold Obligations.StepKeepsTheInvariant
  intro s t hs h
  obtain ⟨hsound, hexclusive⟩ := s.inv_iff.mp hs
  have hbegin : s.begin.Sound := ⟨hsound.busWf, hsound.lowNibble, hsound.noFault⟩
  exact t.inv_iff.mpr ⟨sound_keeps.step hbegin h, step_exclusive hexclusive h⟩

end Sys2Proof.Machine
end

section
/-! The memory of the machine (20_memory.md R51 to R64, R74): the accesses of an instruction are made in its order, each once;
it stops at the first read or write the bus refuses, and a step at the first byte of the fetch it cannot read; nothing but the
stores changes IF, IE or a byte of RAM_BUS; and what is written there reads back. All but the last rest on the walk of the
accesses, of which `exec_walk_ok`, `exec_refused` and `fetchInstr_walk` say how the machine follows it. -/

namespace Sys2Proof.Machine

/-! ### An access of the bus -/

theorem onBus_iff (a : Word) : onBus a = true ↔ a ≠ ifAddr ∧ a ≠ ieAddr := by simp [onBus]

theorem State.canRead_onBus {a : Word} (h : onBus a = true) (s : State) : s.canRead a = (s.bus.readByte a).1.isSome := by
  obtain ⟨hif, hie⟩ := (onBus_iff a).mp h
  rw [State.canRead, if_neg hif, if_neg hie]

theorem State.refusal_read_onBus {a : Word} (h : onBus a = true) (s : State) :
    s.refusal (.read a) = .busFault (.read a) s.stepPc (s.bus.readByte a).2 := by
  obtain ⟨hif, hie⟩ := (onBus_iff a).mp h
  rw [State.refusal, State.afterRead, if_neg hif, if_neg hie, if_neg hif, if_neg hie, State.setBus_bus]

theorem State.canWrite_onBus {a : Word} (h : onBus a = true) (s : State) (v : Byte) :
    s.canWrite a v = (s.bus.writeByte a v).1 := by
  obtain ⟨hif, hie⟩ := (onBus_iff a).mp h
  simp [State.canWrite, hif, hie]

theorem State.refusal_write_onBus {a : Word} (h : onBus a = true) (s : State) (v : Byte) :
    s.refusal (.write a v) = .busFault (.write a v) s.stepPc (s.bus.writeByte a v).2 := by
  obtain ⟨hif, hie⟩ := (onBus_iff a).mp h
  rw [State.refusal, State.storeByte, if_neg hif, if_neg hie, State.setBus_bus]

/-! ### Where an instruction completes and where it stops -/

/-- Settles O25: an instruction that does not stop of itself follows the walk of its accesses to the end. -/
theorem accessesAreMadeInOrder : Obligations.AccessesAreMadeInOrder := by
  unfold Obligations.AccessesAreMadeInOrder
  intro i s u hwalk hlegal hhalt hstop
  have hruns : ¬(shapeOf i).stops s := by
    intro h
    obtain hill | ⟨rfl, hime, hpending, hquirk⟩ | ⟨hi, hwait⟩ := stops_instr h
    · simp [hlegal] at hill
    · simpa [hime, hpending, hquirk] using hhalt rfl
    · simp [hstop hi] at hwait
  obtain ⟨t, hexec, hsees⟩ := exec_walk_ok hruns hwalk
  exact ⟨t, hexec, hsees.bus, hsees.ifr, hsees.ie⟩

/-- Settles O26: a read the bus refuses does not succeed, so the instruction stops there. -/
theorem refusedReadFaults : Obligations.RefusedReadFaults := by
  unfold Obligations.RefusedReadFaults
  intro i s u before after a hl hw ha hr
  have hread : u.allows (.read a) = false := by simp [State.allows, State.canRead_onBus ha, hr]
  rw [exec_refused hl hw hread, State.refusal_read_onBus ha, State.walk_stepPc hw]

/-- Settles O27: a write the bus refuses does not succeed, so the instruction stops there. -/
theorem refusedWriteFaults : Obligations.RefusedWriteFaults := by
  unfold Obligations.RefusedWriteFaults
  intro i s u before after a v hl hw ha hr
  have hwrite : u.allows (.write a v) = false := (u.canWrite_onBus ha v).trans hr
  rw [exec_refused hl hw hwrite, State.refusal_write_onBus ha, State.walk_stepPc hw]

/-! ### Where a fetch stops -/

/-- A step that runs an instruction stops at the first of its own bytes that cannot be read, with the fault of that read at
the place of the step. -/
theorem step_fetch_refused {s u : State} {i : Instr} {rest : List Byte} {before after : List Word} {a : Word} (hs : s.Runs)
    (hd : decode (s.bytesAt s.fetchAddrs) = .ok (i, rest))
    (ht : s.fetchAddrs.take i.descriptor.length = before ++ a :: after) (hw : s.walk (before.map .read) = .ok u)
    (hr : u.canRead a = false) : step s = .fault (State.refusal { u with stepPc := s.pc } (.read a)) := by
  have hwalk : s.begin.walk (s.begin.fetches i.descriptor.length) =
      .error (State.refusal { u with stepPc := s.pc } (.read a)) := by
    have hfetches : s.begin.fetches i.descriptor.length = before.map .read ++ .read a :: after.map .read :=
      (congrArg (List.map Access.read) ht).trans (List.map_append ..)
    rw [hfetches]
    exact State.walk_refused (State.begin_walk s.pc hw) hr
  have hfetch := fetchInstr_walk (s := s.begin) ((congrArg decode (s.begin_bytesAt s.pc s.fetchAddrs)).trans hd)
  rw [hwalk] at hfetch
  obtain ⟨t, hfetch⟩ := hfetch
  rw [step_runs hs, execOne, hfetch]

/-- Settles O7: a byte the bus refuses cannot be read, nor can IF or IE while it is UNDEF, so the step stops there. -/
theorem refusedFetchFaults : Obligations.RefusedFetchFaults := by
  unfold Obligations.RefusedFetchFaults
  intro s u i rest before after a hs hd ht hw
  have hstop := step_fetch_refused hs hd ht hw
  refine ⟨fun ha hr => ?_, ?_, ?_⟩
  · rw [hstop (by simp [State.canRead_onBus ha, hr]), State.refusal_read_onBus ha]
  · rintro rfl hu
    exact hstop (by simp [State.canRead_if, hu])
  · rintro rfl hu
    exact hstop (by simp [State.canRead_ie, hu])

/-! ### What the accesses leave alone -/

/-- What every access of a list keeps, the walk of the list keeps. -/
theorem State.walk_keeps {I : State → Prop} {l : List Access} (hl : ∀ x ∈ l, ∀ s, I s → I (s.afterDoing x)) :
    ∀ {s u : State}, I s → s.walk l = .ok u → I u := by
  induction l with
  | nil => intro s u hs h; cases h; exact hs
  | cons x l ih =>
    intro s u hs h
    rw [State.walk] at h
    split at h
    · exact ih (fun y hy => hl y (List.mem_cons_of_mem x hy)) (hl x List.mem_cons_self s hs) h
    · cases h

/-- IF changes only through a store to its address. -/
theorem State.afterDoing_ifr (s : State) {x : Access} (h : x.storeAddr ≠ some ifAddr) : (s.afterDoing x).ifr = s.ifr := by
  cases x with
  | cell q => rfl
  | read a => exact s.afterRead_ifr a
  | write a v =>
    have ha : a ≠ ifAddr := fun e => h (congrArg some e)
    rw [State.afterDoing, State.storeByte, if_neg ha]
    split <;> rfl

/-- IE changes only through a store to its address. -/
theorem State.afterDoing_ie (s : State) {x : Access} (h : x.storeAddr ≠ some ieAddr) : (s.afterDoing x).ie = s.ie := by
  cases x with
  | cell q => rfl
  | read a => exact s.afterRead_ie a
  | write a v =>
    have ha : a ≠ ieAddr := fun e => h (congrArg some e)
    rw [State.afterDoing, State.storeByte, if_neg ha]
    split <;> rfl

/-- On RAM_BUS a byte changes only through a store to its address. -/
theorem State.afterDoing_byteAt {s : State} {r : RamBus} (hr : s.bus = .ram r) {x : Access} {a : Word}
    (h : x.storeAddr ≠ some a) : (s.afterDoing x).byteAt a = s.byteAt a := by
  cases x with
  | cell q => rfl
  | read b => rw [State.afterDoing, State.afterRead_ram hr]
  | write b v => exact State.byteAt_storeByte_other hr v fun e => h (congrArg some e.symm)

/-- The bus is RAM_BUS with the permissions of `r`, whatever its array holds. -/
def State.OnRam (r : RamBus) (s : State) : Prop := ∃ m, s.bus = .ram { r with mem := m }

/-- An access changes nothing of RAM_BUS but its array. -/
theorem State.OnRam.afterDoing {r : RamBus} {s : State} (h : s.OnRam r) (x : Access) : (s.afterDoing x).OnRam r := by
  obtain ⟨m, hm⟩ := h
  cases x with
  | cell q => exact ⟨m, hm⟩
  | read a => rw [State.afterDoing, State.afterRead_ram hm]; exact ⟨m, hm⟩
  | write a v =>
    obtain ⟨m', hm', -⟩ := s.storeByte_ram hm a v
    exact ⟨m', hm'⟩

/-- On RAM_BUS a walk leaves every byte alone that it does not store to. -/
theorem State.walk_byteAt {s u : State} {r : RamBus} (hr : s.bus = .ram r) {l : List Access} {a : Word}
    (hl : ∀ x ∈ l, x.storeAddr ≠ some a) (hw : s.walk l = .ok u) : u.byteAt a = s.byteAt a := by
  refine (State.walk_keeps (I := fun w => w.OnRam r ∧ w.byteAt a = s.byteAt a) ?_ ⟨⟨r.mem, hr⟩, rfl⟩ hw).2
  rintro x hx w ⟨⟨m, hm⟩, hbyte⟩
  exact ⟨State.OnRam.afterDoing ⟨m, hm⟩ x, (State.afterDoing_byteAt hm (hl x hx)).trans hbyte⟩

/-- An instruction stores to an address where one of its accesses does. -/
theorem not_mem_storesTo {i : Instr} {s : State} {a : Word} (h : a ∉ storesTo i s) :
    ∀ x ∈ accesses i s, x.storeAddr ≠ some a :=
  fun x hx he => h (List.mem_filterMap.mpr ⟨x, hx, he⟩)

/-- A shape that is ready does not stop of itself. -/
theorem Shape.not_stops_of_ready {x : Shape} {s : State} (h : x.ready s) : ¬x.stops s := by
  cases x
  case illegal opcode => exact h.elim
  case halt n =>
    rintro ⟨hime, hpending, hquirk⟩
    obtain ⟨-, -, hp | hq⟩ := h hime
    · exact hpending hp
    · simp [hq] at hquirk
  case stop n => exact fun hfault => absurd (hfault.symm.trans h) (by decide)
  all_goals exact id

/-- An instruction that completes has made all its accesses, and leaves the address space as they left it. -/
theorem exec_next_walk {i : Instr} {s t : State} (h : exec i s = .next t) :
    ∃ w, s.walk (accesses i s) = .ok w ∧ t.Sees w := by
  cases hw : s.walk (accesses i s) with
  | error f => simp [exec_walk_error hw] at h
  | ok w =>
    obtain ⟨hready, -⟩ := (exec_next_iff i s t).mp h
    obtain ⟨t', hexec, hsees⟩ := exec_walk_ok (Shape.not_stops_of_ready hready) hw
    have ht : t' = t := by simpa [hexec] using h
    exact ⟨w, rfl, ht ▸ hsees⟩

/-- Settles O19: what the instruction does to the address space is what the walk of its accesses does. -/
theorem memoryFrame : Obligations.MemoryFrame := by
  unfold Obligations.MemoryFrame
  intro i s t h
  obtain ⟨w, hwalk, hsees⟩ := exec_next_walk h
  refine ⟨fun hif => ?_, fun hie => ?_, fun r hr => ⟨fun a ha => ?_, ?_⟩⟩
  · rw [hsees.ifr]
    exact State.walk_keeps (I := fun u => u.ifr = s.ifr)
      (fun x hx u hu => (u.afterDoing_ifr (not_mem_storesTo hif x hx)).trans hu) rfl hwalk
  · rw [hsees.ie]
    exact State.walk_keeps (I := fun u => u.ie = s.ie)
      (fun x hx u hu => (u.afterDoing_ie (not_mem_storesTo hie x hx)).trans hu) rfl hwalk
  · rw [hsees.byteAt]
    exact State.walk_byteAt hr (not_mem_storesTo ha) hwalk
  · rw [hsees.bus]
    exact State.walk_keeps (I := State.OnRam r) (fun x _ _ hu => hu.afterDoing x) ⟨r.mem, hr⟩ hwalk

/-! ### A byte written and read back -/

/-- The top three bits of IF read as ones over the five that are kept. -/
theorem or_e0_eq_e0_or_low_five (v : Byte) : v ||| 0xE0#8 = 0xE0#8 ||| (v &&& 0x1F#8) := by
  revert v
  decide

/-- Settles O34: a write that succeeds is `State.storeByte`, whose read back is known at its address and at every other. -/
theorem writeReadsBack : Obligations.WriteReadsBack := by
  unfold Obligations.WriteReadsBack
  intro s t r a b v hr hwf h
  obtain ⟨hcan, rfl⟩ := (memWrite8_ok_iff a v s t ()).mp h
  refine ⟨fun ha => State.byteAt_storeByte_same hr hwf ha hcan, ?_, State.byteAt_storeByte_other hr v⟩
  rintro rfl
  rw [State.byteAt_storeByte_if, or_e0_eq_e0_or_low_five]

end Sys2Proof.Machine
end

section
/-! The encoding (30_encoding.md): decoding and encoding undo each other, the lengths and the illegal rows of the two tables,
the illegal opcodes and the CB byte as instructions, and the two columns of the opcode table that speak of the state after an
instruction, its flags and its cycles. -/

namespace Sys2Proof.Machine

/-! ### Decoding and encoding -/

/-- Settles O2: the decoder reads the immediates back from the bytes the encoder wrote, a word from its two halves. -/
theorem decodeOfEncode : Obligations.DecodeOfEncode := by
  unfold Obligations.DecodeOfEncode
  intro i rest hwf
  cases i
  case prefixCb op2 => cases hwf
  case ldBcD16 n | ldIndA16Sp n | ldDeD16 n | ldHlD16 n | ldSpD16 n | jpNzA16 n | jpA16 n | callNzA16 n | jpZA16 n
      | callZA16 n | callA16 n | jpNcA16 n | callNcA16 n | jpCA16 n | callCA16 n | ldIndA16A n | ldAIndA16 n =>
    rw [← word16_hi_lo n]
    simp only [encode, hiByte_word16, loByte_word16]
    rfl
  all_goals rfl

/-- Settles O3: by the rows that decode; each encodes to its own number and the bytes its length asks for. -/
theorem encodeOfDecode : Obligations.EncodeOfDecode := by
  unfold Obligations.EncodeOfDecode
  intro bytes i rest h
  obtain ⟨op2, rfl, rfl⟩ | ⟨op, hcb, hlen, rfl, rfl⟩ | ⟨op, b1, hcb, hlen, rfl, rfl⟩ | ⟨op, b1, b2, hcb, hlen, rfl, rfl⟩ :=
    (decode_ok_iff bytes i rest).mp h
  · exact ⟨decodeCb_wellFormed op2, by rw [encode_decodeCb]; rfl⟩
  all_goals
    exact ⟨decodeBase_wellFormed op _ _ hcb, by rw [encode_decodeBase op _ _ hcb, hlen]; rfl⟩

/-- Where bytes decode, the instruction has taken one to three of them, as many as its descriptor says. -/
theorem decode_length {bytes rest : List Byte} {i : Instr} (h : decode bytes = .ok (i, rest)) :
    bytes.length = i.descriptor.length + rest.length ∧ 1 ≤ i.descriptor.length ∧ i.descriptor.length ≤ 3 := by
  obtain ⟨op2, rfl, rfl⟩ | ⟨op, -, hlen, rfl, rfl⟩ | ⟨op, b1, -, hlen, rfl, rfl⟩ | ⟨op, b1, b2, -, hlen, rfl, rfl⟩ :=
    (decode_ok_iff bytes i rest).mp h
  · rw [length_decodeCb]; simp only [List.length_cons]; omega
  all_goals rw [length_decodeBase, hlen]; simp only [List.length_cons]; omega

/-- Three bytes are enough for every row. -/
theorem decode_three_bytes (b0 b1 b2 : Byte) (rest : List Byte) :
    ∃ i left, decode (b0 :: b1 :: b2 :: rest) = .ok (i, left) := by
  by_cases hcb : b0 = 0xCB#8
  · exact ⟨_, _, (decode_ok_iff ..).mpr (.inl ⟨b1, by rw [hcb], rfl⟩)⟩
  · obtain hlen | hlen | hlen := baseLength_range b0
    · exact ⟨_, _, (decode_ok_iff ..).mpr (.inr (.inl ⟨b0, hcb, hlen, rfl, rfl⟩))⟩
    · exact ⟨_, _, (decode_ok_iff ..).mpr (.inr (.inr (.inl ⟨b0, b1, hcb, hlen, rfl, rfl⟩)))⟩
    · exact ⟨_, _, (decode_ok_iff ..).mpr (.inr (.inr (.inr ⟨b0, b1, b2, hcb, hlen, rfl, rfl⟩)))⟩

/-- Settles O4: by the rows that decode, and since no row asks for more than three bytes. -/
theorem decodedLength : Obligations.DecodedLength := by
  unfold Obligations.DecodedLength
  exact ⟨fun _ _ _ => decode_length, decode_three_bytes⟩

/-- Settles O1: each word decodes by computation. -/
theorem decodesSampleWords : Obligations.DecodesSampleWords := by
  unfold Obligations.DecodesSampleWords
  exact ⟨rfl, rfl, rfl, rfl, rfl, rfl, rfl, rfl, rfl, rfl, rfl⟩

/-! ### The illegal opcodes and the CB byte -/

/-- The illegal rows are those whose shape is illegal. -/
theorem isIllegal_shape (i : Instr) : isIllegal i = (shapeOf i).illegalOpcode.isSome := by
  cases i
  case prefixCb op2 =>
    show false = (cbShape op2).illegalOpcode.isSome
    unfold cbShape
    cases field2 op2 6 <;> rfl
  all_goals rfl

/-- Settles O5: the base table is illegal exactly at the eleven opcodes, and the second table nowhere. -/
theorem elevenIllegalOpcodes : Obligations.ElevenIllegalOpcodes := by
  unfold Obligations.ElevenIllegalOpcodes
  refine ⟨fun op b1 b2 => ?_, fun op2 => ?_⟩
  · rw [isIllegal_shape, decodeBase_illegalOpcode]
    by_cases hop : op ∈ illegalOpcodes <;> simp [hop]
  · rw [isIllegal_shape]
    cases hshape : shapeOf (decodeCb op2)
    case illegal opcode => exact absurd hshape (decodeCb_legal op2 opcode)
    all_goals rfl

/-- Settles O8: the meaning of each of the eleven is the DecodeFault of its opcode. -/
theorem illegalOpcodesStop : Obligations.IllegalOpcodesStop := by
  unfold Obligations.IllegalOpcodesStop
  intro s
  exact ⟨runOp_illegalOpcode _ s, runOp_illegalOpcode _ s, runOp_illegalOpcode _ s, runOp_illegalOpcode _ s,
    runOp_illegalOpcode _ s, runOp_illegalOpcode _ s, runOp_illegalOpcode _ s, runOp_illegalOpcode _ s,
    runOp_illegalOpcode _ s, runOp_illegalOpcode _ s, runOp_illegalOpcode _ s⟩

/-- A CB instruction is ready where its operand can be read and stored and F holds a value. -/
theorem cbShape_ready {s : State} {op2 : Byte} (hread : s.opndReady (opnd8 (field3 op2 0)) = true)
    (hstore : ∀ v, (s.afterOpnd (opnd8 (field3 op2 0))).opndStorable (opnd8 (field3 op2 0)) v = true)
    (hf : s.unset.f = false) : (cbShape op2).ready s := by
  unfold cbShape
  cases field2 op2 6
  · exact ⟨fun _ => hf, hread, hstore _⟩
  · exact ⟨hread, hf⟩
  · exact ⟨hread, hstore _⟩
  · exact ⟨hread, hstore _⟩

/-- Settles O60: both mean the operation of one shape, which is ready there and writes neither PC nor SP. -/
theorem cbByteSelectsTheSecondTable : Obligations.CbByteSelectsTheSecondTable := by
  unfold Obligations.CbByteSelectsTheSecondTable
  intro s op2
  refine ⟨?_, fun hread hstore hf => ⟨_, (exec_next_iff _ s _).mpr ⟨cbShape_ready hread hstore hf, rfl⟩, ?_, ?_⟩⟩
  · rw [exec_shape, exec_shape, shapeOf_decodeCb]
    rfl
  · rw [State.tick_pc, shape_pc _ s (writesPc_shape (.prefixCb op2)).symm]
  · rw [State.tick_sp, shape_sp _ s (writesSp_shape (.prefixCb op2)).symm]

/-! ### The cycles of the opcode table -/

/-- The cycles of a shape's row of the opcode table: those of the taken form, where there are two. -/
def Shape.cycles : Shape → Option Nat
  | .illegal _ => none
  | .jpCc _ _ x _ | .jrCc _ _ x _ | .callCc _ _ x _ | .retCc _ x _ => some x
  | .ld _ _ n | .ldImm _ _ n | .loadA _ n | .storeA _ n | .ldRp _ _ n | .storeSp _ n | .ldSpHl n | .push _ n | .pop _ n
  | .ldHlSp _ n | .alu _ _ n | .inc _ n | .dec _ n | .daa n | .cpl n | .scf n | .ccf n | .incRp _ n | .decRp _ n
  | .addHl _ n | .addSp _ n | .rotA _ n | .rot _ _ n | .bit _ _ n | .res _ _ n | .set _ _ n | .jp _ n | .jpHl n | .jr _ n
  | .call _ n | .ret n | .reti n | .rst _ n | .nop n | .halt n | .stop n | .di n | .ei n => some n

/-- The cycles of a conditional shape that is not taken. -/
def Shape.cyclesNotTaken : Shape → Option Nat
  | .jpCc _ _ _ y | .jrCc _ _ _ y | .callCc _ _ _ y | .retCc _ _ y => some y
  | _ => none

theorem descriptor_cycles {i : Instr} (h : i.wellFormed = true) :
    i.descriptor.cycles = (shapeOf i).cycles ∧ i.descriptor.cyclesNotTaken = (shapeOf i).cyclesNotTaken := by
  cases i
  case prefixCb op2 => cases h
  all_goals exact ⟨rfl, rfl⟩

/-- A shape that completes returns one of its row's counts. -/
theorem shape_count (x : Shape) {s : State} (h : x.ready s) :
    x.cycles = some (x.count s) ∨ x.cyclesNotTaken = some (x.count s) := by
  cases x
  case illegal opcode => exact h.elim
  case jpCc k _ _ _ | jrCc k _ _ _ | callCc k _ _ _ | retCc k _ _ =>
    simp only [Shape.cycles, Shape.cyclesNotTaken, Shape.count]
    cases condHolds k s.flags
    · exact .inr rfl
    · exact .inl rfl
  all_goals exact .inl rfl

/-- No shape touches the counter: the count is added by `exec` (log entry 9). -/
theorem shape_cycles (x : Shape) (s : State) : (x.after s).cycles = s.cycles := by
  cases x
  case alu op _ _ => cases op <;> simp [Shape.after, State.afterAlu]
  case jpCc | jrCc | callCc | retCc | halt => simp only [Shape.after]; split <;> simp
  all_goals simp [Shape.after]

/-- Settles O22: the counter moves by the count of the shape, which is one of its row's. -/
theorem cyclesAreThoseOfTheTable : Obligations.CyclesAreThoseOfTheTable := by
  unfold Obligations.CyclesAreThoseOfTheTable
  intro i s t hwf h
  obtain ⟨hready, rfl⟩ := (exec_next_iff i s t).mp h
  obtain ⟨hcycles, hnotTaken⟩ := descriptor_cycles hwf
  refine ⟨(shapeOf i).count s, ?_, ?_⟩
  · rw [hcycles, hnotTaken]
    exact shape_count _ hready
  · rw [State.tick_cycles, shape_cycles]

/-! ### The flags of the opcode table -/

/-- F may go from `before` to `after` under a row of flag policies (30_encoding.md R101, 10_state.md R24): each flag by its
policy; a row that keeps all four leaves F alone, any other leaves its low nibble zero. -/
def RowAllows (row : FlagRow) (before after : Byte) : Prop :=
  policyAllows row.z (flagZ before) (flagZ after) ∧ policyAllows row.n (flagN before) (flagN after) ∧
  policyAllows row.h (flagH before) (flagH after) ∧ policyAllows row.c (flagC before) (flagC after) ∧
  (if row = ⟨.keep, .keep, .keep, .keep⟩ then after = before else after &&& 0x0F#8 = 0#8)

/-- What a write of F stores has a zero low nibble. -/
theorem masked_low_nibble (v : Byte) : (v &&& 0xF0#8) &&& 0x0F#8 = 0#8 := by
  have hdisjoint : (0xF0#8 &&& 0x0F#8 : Byte) = 0#8 := by decide
  rw [BitVec.and_assoc, hdisjoint, BitVec.and_zero]

/-- The four flags read back from a packed F. -/
theorem flags_packFlags (z n h c : Bool) :
    flagZ (packFlags z n h c &&& 0xF0#8) = z ∧ flagN (packFlags z n h c &&& 0xF0#8) = n ∧
    flagH (packFlags z n h c &&& 0xF0#8) = h ∧ flagC (packFlags z n h c &&& 0xF0#8) = c := by
  revert z n h c
  decide

theorem flagZ_flags (s : State) : flagZ s.flags = flagZ s.f := by simp [flagZ, State.flags]
theorem flagN_flags (s : State) : flagN s.flags = flagN s.f := by simp [flagN, State.flags]
theorem flagC_flags (s : State) : flagC s.flags = flagC s.f := by simp [flagC, State.flags]

/-- An F left alone is within the row that keeps all four. -/
theorem rowAllows_same {before after : Byte} (h : after = before) : RowAllows ⟨.keep, .keep, .keep, .keep⟩ before after := by
  subst h
  exact ⟨rfl, rfl, rfl, rfl, by rw [if_pos rfl]⟩

/-- Four flags that follow their policies, packed into F, are within a row that does not keep all four. -/
theorem rowAllows_packed {row : FlagRow} {before : Byte} {z n h c : Bool} (hrow : row ≠ ⟨.keep, .keep, .keep, .keep⟩)
    (hz : policyAllows row.z (flagZ before) z) (hn : policyAllows row.n (flagN before) n)
    (hh : policyAllows row.h (flagH before) h) (hc : policyAllows row.c (flagC before) c) :
    RowAllows row before (packFlags z n h c &&& 0xF0#8) := by
  obtain ⟨ez, en, eh, ec⟩ := flags_packFlags z n h c
  exact ⟨ez.symm ▸ hz, en.symm ▸ hn, eh.symm ▸ hh, ec.symm ▸ hc, (if_neg hrow).symm ▸ masked_low_nibble _⟩

/-- The flags of an ALU operation's row (43_alu8.md R151 to R158). -/
def aluFlags : AluOp → FlagRow
  | .add | .adc => ⟨.computed, .clear, .computed, .computed⟩
  | .sub | .sbc | .cp => ⟨.computed, .set, .computed, .computed⟩
  | .and => ⟨.computed, .clear, .set, .clear⟩
  | .xor | .or => ⟨.computed, .clear, .clear, .clear⟩

/-- The flags of a rotate's or shift's row: SWAP clears C (45_rotate_shift_bit.md R185 to R192). -/
def rotFlags : RotOp → FlagRow
  | .swap => ⟨.computed, .clear, .clear, .clear⟩
  | .rlc | .rrc | .rl | .rr | .sla | .sra | .srl => ⟨.computed, .clear, .clear, .computed⟩

/-- The flags of a shape's row of the opcode table. -/
def Shape.flagRow : Shape → FlagRow
  | .alu op _ _ => aluFlags op
  | .inc _ _ => ⟨.computed, .clear, .computed, .keep⟩
  | .dec _ _ => ⟨.computed, .set, .computed, .keep⟩
  | .daa _ => ⟨.computed, .keep, .clear, .computed⟩
  | .cpl _ => ⟨.keep, .set, .set, .keep⟩
  | .scf _ => ⟨.keep, .clear, .clear, .set⟩
  | .ccf _ => ⟨.keep, .clear, .clear, .computed⟩
  | .addHl _ _ => ⟨.keep, .clear, .computed, .computed⟩
  | .addSp _ _ | .ldHlSp _ _ => ⟨.clear, .clear, .computed, .computed⟩
  | .rotA _ _ => ⟨.clear, .clear, .clear, .computed⟩
  | .rot op _ _ => rotFlags op
  | .bit _ _ _ => ⟨.computed, .clear, .set, .keep⟩
  | .pop .af _ => ⟨.computed, .computed, .computed, .computed⟩
  | _ => ⟨.keep, .keep, .keep, .keep⟩

/-- The row of an instruction with flag policies is that of its shape; PREFIX_CB has none. -/
theorem descriptor_flagRow {i : Instr} {row : FlagRow} (h : i.descriptor.flags = some row) : (shapeOf i).flagRow = row := by
  cases i
  case prefixCb op2 => cases h
  all_goals exact Option.some.inj h

theorem State.afterAlu_f (s : State) (op : AluOp) (r : Result8) :
    (s.afterAlu op r).f = packFlags r.z r.n r.h r.c &&& 0xF0#8 := by
  cases op <;> rfl

theorem State.setPair_f (s : State) {p : Reg16} (v : Word) (h : p ≠ .af) : (s.setPair p v).f = s.f := by
  cases p <;> simp [State.setPair] at h ⊢

theorem rp_reg16_ne_af (p : Rp) : p.reg16 ≠ .af := by cases p <;> decide

/-- Every ALU operation writes F by its row. -/
theorem alu8_flags (op : AluOp) (before a b : Byte) (cin : Bool) :
    RowAllows (aluFlags op) before
      (packFlags (alu8 op a b cin).z (alu8 op a b cin).n (alu8 op a b cin).h (alu8 op a b cin).c &&& 0xF0#8) := by
  cases op
  case add | adc | sub | sbc | cp => exact rowAllows_packed nofun trivial rfl trivial trivial
  case and | xor | or => exact rowAllows_packed nofun trivial rfl rfl rfl

/-- Every rotate and shift writes F by its row. -/
theorem rotate8_flags (op : RotOp) (before v : Byte) (cin z : Bool) :
    RowAllows (rotFlags op) before (packFlags z false false (rotate8 op v cin).2 &&& 0xF0#8) := by
  cases op
  case swap => exact rowAllows_packed nofun trivial rfl rfl rfl
  all_goals exact rowAllows_packed nofun trivial rfl rfl trivial

/-- Every shape leaves F within its row. -/
theorem shape_flags (x : Shape) (s : State) : RowAllows x.flagRow s.f (x.after s).f := by
  cases x
  case alu op src _ => rw [Shape.after, State.afterAlu_f]; exact alu8_flags ..
  case rot op o _ => exact rotate8_flags ..
  case inc | dec => exact rowAllows_packed nofun trivial rfl trivial (flagC_flags s)
  case daa => exact rowAllows_packed nofun trivial (flagN_flags s) rfl trivial
  case cpl => exact rowAllows_packed nofun (flagZ_flags s) rfl rfl (flagC_flags s)
  case scf => exact rowAllows_packed nofun (flagZ_flags s) rfl rfl rfl
  case ccf => exact rowAllows_packed nofun (flagZ_flags s) rfl rfl trivial
  case addHl => exact rowAllows_packed nofun (flagZ_flags s) rfl trivial trivial
  case addSp | ldHlSp => exact rowAllows_packed nofun rfl rfl trivial trivial
  case rotA => exact rowAllows_packed nofun rfl rfl rfl trivial
  case bit => exact rowAllows_packed nofun trivial rfl rfl (flagC_flags s)
  case pop p n =>
    cases p
    case af => exact ⟨trivial, trivial, trivial, trivial, masked_low_nibble _⟩
    all_goals exact rowAllows_same (s.popped_f ▸ State.setPair_f _ _ nofun)
  case ldRp p _ _ | incRp p _ | decRp p _ => exact rowAllows_same (s.setPair_f _ (rp_reg16_ne_af p))
  case jpCc | jrCc | callCc | retCc | halt => refine rowAllows_same ?_; simp only [Shape.after]; split <;> simp
  all_goals exact rowAllows_same (by simp [Shape.after])

/-- Settles O21: by the shape of the instruction, whose row is the descriptor's. -/
theorem flagFrame : Obligations.FlagFrame := by
  unfold Obligations.FlagFrame
  intro i s t row h hrow
  obtain ⟨-, rfl⟩ := (exec_next_iff i s t).mp h
  rw [← descriptor_flagRow hrow]
  exact shape_flags (shapeOf i) s

end Sys2Proof.Machine
end

section
/-! The 8-bit loads (41_load8.md). Each of them is one of four shapes whose effect the model's laws give: the result is read
off the effect, with the move of HL and the high page written as additions modulo 2^16. -/

namespace Sys2Proof.Machine

/-- An instruction whose shape is ready answers the state of the shape's effect, its count added. -/
theorem exec_of_ready {i : Instr} {x : Shape} (hx : shapeOf i = x) {s : State} (hr : x.ready s) :
    exec i s = .next ((x.after s).tick (x.count s)) := by
  subst hx
  exact (exec_next_iff i s _).mpr ⟨hr, rfl⟩

/-- A page-0xFF address is the sum the rules write (41_load8.md R135 to R138). -/
theorem highPage_eq (n : Byte) : highPage n = 0xFF00#16 + n.zeroExtend 16 := by
  revert n; decide

/-! ### LD r,r', LD r,d8 and the loads and stores at HL -/

/-- Settles O35: each form by the effect of its shape, ready where the cells it reads hold values and the byte at HL can be
read or written. -/
theorem loadByte : Obligations.LoadByte := by
  unfold Obligations.LoadByte
  intro s r n
  refine ⟨fun q hq => ?_, fun hhl hread => ?_, fun hr hhl hwrite => ?_, ?_, fun hhl hwrite => ?_⟩
  · exact exec_of_ready (shapeOf_ld_reg r (.reg q)) ⟨rfl, by simp [State.opndReady, hq]⟩
  · exact exec_of_ready (shapeOf_ld_reg r .indHl) ⟨rfl, by simp [State.opndReady, hhl, hread]⟩
  · refine exec_of_ready (shapeOf_ld_indHl r) ⟨?_, by simp [State.opndReady, hr]⟩
    simp [State.afterOpnd, State.opnd, State.opndStorable, hhl, hwrite]
  · exact exec_of_ready (shapeOf_ldImm (.reg r) n) rfl
  · refine exec_of_ready (shapeOf_ldImm .indHl n) ?_
    simp [Shape.ready, State.opndStorable, hhl, hwrite]

/-! ### The loads and stores of A -/

/-- A load of A: the byte at the operand's address, then the move of HL. -/
theorem exec_ldAFrom {s : State} {m : MemOpnd} {a : Word} (ha : memAddress m s = a) (hm : s.memOpndReady m = true)
    (hread : s.canRead a = true) :
    exec (.ldAFrom m) s =
      .next ((((s.afterRead a).setReg .a (s.byteAt a)).afterAccess m a).tick (memOpndCycles m)) := by
  subst ha
  exact exec_of_ready (shapeOf_ldAFrom m) ⟨hm, hread⟩

/-- A store of A: A at the operand's address, then the move of HL. -/
theorem exec_ldATo {s : State} {m : MemOpnd} {a : Word} (ha : memAddress m s = a) (hm : s.memOpndReady m = true)
    (hA : s.unset.a = false) (hwrite : s.canWrite a s.a = true) :
    exec (.ldATo m) s = .next (((s.storeByte a s.a).afterAccess m a).tick (memOpndCycles m)) := by
  subst ha
  exact exec_of_ready (shapeOf_ldATo m) ⟨hm, hA, hwrite⟩

/-- Settles O36: the load of A at each of the seven operands. -/
theorem loadAccumulator : Obligations.LoadAccumulator := by
  unfold Obligations.LoadAccumulator
  intro s
  refine ⟨fun hbc hread => ?_, fun hde hread => ?_, fun hhl hread => ⟨?_, ?_⟩, fun a hread => ?_, fun n hread => ?_,
    fun hc hread => ?_⟩
  · exact exec_ldAFrom (m := .indBc) rfl (by simp [State.memOpndReady, hbc]) hread
  · exact exec_ldAFrom (m := .indDe) rfl (by simp [State.memOpndReady, hde]) hread
  · rw [← inc16_eq]
    exact exec_ldAFrom (m := .indHlInc) rfl (by simp [State.memOpndReady, hhl]) hread
  · rw [← dec16_eq]
    exact exec_ldAFrom (m := .indHlDec) rfl (by simp [State.memOpndReady, hhl]) hread
  · exact exec_ldAFrom (m := .abs a) rfl rfl hread
  · exact exec_ldAFrom (m := .high n) (highPage_eq n) rfl hread
  · exact exec_ldAFrom (m := .highC) (highPage_eq s.c) (by simp [State.memOpndReady, hc]) hread

/-- Settles O37: the store of A at each of the seven operands. -/
theorem storeAccumulator : Obligations.StoreAccumulator := by
  unfold Obligations.StoreAccumulator
  intro s hA
  refine ⟨fun hbc hwrite => ?_, fun hde hwrite => ?_, fun hhl hwrite => ⟨?_, ?_⟩, fun a hwrite => ?_, fun n hwrite => ?_,
    fun hc hwrite => ?_⟩
  · exact exec_ldATo (m := .indBc) rfl (by simp [State.memOpndReady, hbc]) hA hwrite
  · exact exec_ldATo (m := .indDe) rfl (by simp [State.memOpndReady, hde]) hA hwrite
  · rw [← inc16_eq]
    exact exec_ldATo (m := .indHlInc) rfl (by simp [State.memOpndReady, hhl]) hA hwrite
  · rw [← dec16_eq]
    exact exec_ldATo (m := .indHlDec) rfl (by simp [State.memOpndReady, hhl]) hA hwrite
  · exact exec_ldATo (m := .abs a) rfl rfl hA hwrite
  · exact exec_ldATo (m := .high n) (highPage_eq n) rfl hA hwrite
  · exact exec_ldATo (m := .highC) (highPage_eq s.c) (by simp [State.memOpndReady, hc]) hA hwrite

end Sys2Proof.Machine
end

section
/-! The 16-bit loads and the stack (42_load16_stack.md): the effects of their shapes, with the bytes of a word written as its
halves and the second byte of a pair one address up modulo 2^16; and a pop after a push on RAM_BUS. -/

namespace Sys2Proof.Machine

/-! ### The word loads -/

/-- Settles O38: each form by the effect of its shape; the store of SP is ready where the two bytes can be written. -/
theorem wordLoads : Obligations.WordLoads := by
  unfold Obligations.WordLoads
  intro s n
  refine ⟨?_, ?_, ?_, ?_, fun hhl => ?_, fun hsp hlo hhi => ?_⟩
  · exact exec_of_ready (shapeOf_ldRp .bc n) trivial
  · exact exec_of_ready (shapeOf_ldRp .de n) trivial
  · exact exec_of_ready (shapeOf_ldRp .hl n) trivial
  · exact exec_of_ready (shapeOf_ldRp .sp n) trivial
  · exact exec_of_ready (x := .ldSpHl 8) rfl hhl
  · rw [← inc16_eq] at hhi ⊢
    exact exec_of_ready (x := .storeSp n 20) rfl ⟨hsp, hlo, hhi⟩

/-! ### PUSH and POP -/

/-- PUSH stores the pair on the stack where both of its bytes can be written. -/
theorem exec_push {s : State} {p : Rp2} (hp : s.unset.pair p.reg16 = false) (hpush : s.canPush (s.pair p.reg16) = true) :
    exec (.push p) s = .next ((s.pushed (s.pair p.reg16)).tick 16) :=
  exec_of_ready (shapeOf_push p) ⟨hp, hpush⟩

/-- POP loads the pair with the word on the stack where both of its bytes can be read. -/
theorem exec_pop {s : State} (p : Rp2) (hpop : s.canPop = true) :
    exec (.pop p) s = .next ((s.popped.setPair p.reg16 s.top).tick 12) :=
  exec_of_ready (shapeOf_pop p) hpop

/-- Settles O39: the bytes stored are the halves of the pair, and the halves of the word popped are the bytes read. -/
theorem pushAndPopPair : Obligations.PushAndPopPair := by
  unfold Obligations.PushAndPopPair
  intro s hsp
  refine ⟨fun p hp hhi hlo => ?_, fun hlo hhi => ?_⟩
  · have hpush : s.canPush (s.pair p.reg16) = true := by
      rw [State.canPush, hsp, Bool.and_eq_true, Bool.and_eq_true]
      exact ⟨⟨rfl, hhi⟩, hlo⟩
    exact exec_push hp hpush
  · have hpop : s.canPop = true := by simp [State.canPop, hsp, hlo, hhi]
    have hhiTop : hiByte s.top = (s.afterRead s.sp).byteAt (s.sp + 1#16) := hiByte_word16 ..
    have hloTop : loByte s.top = s.byteAt s.sp := loByte_word16 ..
    rw [← hhiTop, ← hloTop]
    exact ⟨exec_pop .bc hpop, exec_pop .de hpop, exec_pop .hl hpop, exec_pop .af hpop⟩

theorem rp2_reg16_ne_sp (p : Rp2) : p.reg16 ≠ .sp := by cases p <;> decide

/-- Settles O40: what was pushed is on the stack PUSH left (`State.pushed_pops`), so POP finds it there and moves SP back. -/
theorem popReturnsWhatWasPushed : Obligations.PopReturnsWhatWasPushed := by
  unfold Obligations.PopReturnsWhatWasPushed
  intro s r p q hram hwf hp hpush hread1 hread2 hif1 hif2
  obtain ⟨hpop, htop, hpopped⟩ := State.pushed_pops hram (s.pair p.reg16) hwf hpush hread1 hread2 hif1 hif2
  refine ⟨_, _, exec_push hp hpush, exec_pop q ((State.tick_canPop _ 16).trans hpop), ?_, ?_⟩
  · rw [State.tick_sp, State.setPair_sp _ _ (rp2_reg16_ne_sp q), State.tick_popped, State.tick_sp, hpopped, State.setSp_sp]
  · rw [State.tick_top, htop, State.tick_pair]
    cases q with
    | bc | de | hl => exact word16_hi_lo _
    | af => exact State.setPair_pair_af _ _

/-! ### SP with a signed displacement -/

/-- Settles O42: `addSpDisp` is the signed sum with the carries of the unsigned addition of the low bytes; F and SP are
written in either order. -/
theorem stackPointerDisplacement : Obligations.StackPointerDisplacement := by
  unfold Obligations.StackPointerDisplacement
  intro s e hsp
  exact ⟨exec_of_ready (x := .ldHlSp e 12) rfl hsp, exec_of_ready (x := .addSp e 16) rfl hsp⟩

end Sys2Proof.Machine
end

section
/-! The 8-bit arithmetic and logic (43_alu8.md). The results of `add8`, `sub8`, `inc8`, `dec8` and `daa8` are written as
bit-vector sums and differences with their carries and borrows; each instruction is then its shape where that is ready. DAA
is one adjustment of the two digits, and on BCD bytes it adjusts exactly the digits that went past 9 or borrowed. -/

namespace Sys2Proof.Machine

/-! ### The results and their flags -/

theorem bit01_eq_toNat (b : Bool) : bit01 b = b.toNat := by cases b <;> rfl

/-- A sum taken in the naturals and cut to eight bits is the sum modulo 256. -/
theorem ofNat_toNat_add (a : Byte) (k : Nat) : BitVec.ofNat 8 (a.toNat + k) = a + BitVec.ofNat 8 k := by
  rw [BitVec.ofNat_add, BitVec.ofNat_toNat, BitVec.setWidth_eq]

/-- A difference taken in the integers and cut to eight bits is the difference modulo 256. -/
theorem ofInt_toNat_sub (a : Byte) (k : Nat) : BitVec.ofInt 8 ((a.toNat : Int) - k) = a - BitVec.ofNat 8 k := by
  apply BitVec.eq_of_toNat_eq
  rw [BitVec.toNat_ofInt, BitVec.toNat_sub, BitVec.toNat_ofNat]
  have := a.isLt
  omega

/-- `A + b + cin` as bit-vector addition, with Z from it and the carries out of bits 3 and 7 (43_alu8.md R151, R152). -/
theorem add8_eq (a b : Byte) (c : Bool) :
    add8 a b c =
      { value := a + b + (if c then 1#8 else 0#8)
        z := decide (a + b + (if c then 1#8 else 0#8) = 0#8)
        n := false
        h := decide (16 ≤ a.toNat % 16 + b.toNat % 16 + c.toNat)
        c := decide (256 ≤ a.toNat + b.toNat + c.toNat) } := by
  have hvalue : BitVec.ofNat 8 (a.toNat + b.toNat + c.toNat) = a + b + (if c then 1#8 else 0#8) := by
    rw [Nat.add_assoc, ofNat_toNat_add, ofNat_toNat_add, BitVec.add_assoc]
    cases c <;> rfl
  have hz : (a.toNat + b.toNat + c.toNat) % 256 = 0 ↔ BitVec.ofNat 8 (a.toNat + b.toNat + c.toNat) = 0#8 := by
    rw [← BitVec.toNat_inj, BitVec.toNat_ofNat, BitVec.toNat_ofNat]
  simp only [add8, bit01_eq_toNat, hz, hvalue]
  rfl

/-- `A − b − cin` as bit-vector subtraction, with Z from it and the borrows into bits 3 and 7 (43_alu8.md R153, R154). -/
theorem sub8_eq (a b : Byte) (c : Bool) :
    sub8 a b c =
      { value := a - b - (if c then 1#8 else 0#8)
        z := decide (a - b - (if c then 1#8 else 0#8) = 0#8)
        n := true
        h := decide (a.toNat % 16 < b.toNat % 16 + c.toNat)
        c := decide (a.toNat < b.toNat + c.toNat) } := by
  have hvalue : BitVec.ofInt 8 ((a.toNat : Int) - b.toNat - c.toNat) = a - b - (if c then 1#8 else 0#8) := by
    rw [Int.sub_sub, ← Int.natCast_add, ofInt_toNat_sub, ofNat_toNat_add, BitVec.sub_sub]
    cases c <;> rfl
  have hz : ((a.toNat : Int) - b.toNat - c.toNat) % 256 = 0 ↔
      BitVec.ofInt 8 ((a.toNat : Int) - b.toNat - c.toNat) = 0#8 := by
    rw [← BitVec.toNat_inj, BitVec.toNat_ofInt, BitVec.toNat_ofNat]
    omega
  simp only [sub8, bit01_eq_toNat, hz, hvalue]

/-- The half carry of an increment shows in its result: the low digit is 0 (43_alu8.md R159). -/
theorem incHalf_eq (v : Byte) : incHalf v = decide ((v + 1#8) &&& 0x0F#8 = 0x00#8) := by
  revert v; decide

/-- The half borrow of a decrement shows in its result: the low digit is 15 (43_alu8.md R161). -/
theorem decHalf_eq (v : Byte) : decHalf v = decide ((v - 1#8) &&& 0x0F#8 = 0x0F#8) := by
  revert v; decide

/-! ### The ALU group -/

/-- An ALU instruction with the result `r` writes it and its flags, where A, the second operand and the carry it uses hold
values. -/
theorem exec_alu {s : State} {op : AluOp} {src : Src8} {r : Result8}
    (hr : alu8 op s.a (s.src src) (aluUsesCarry op && flagC s.f) = r) (hsrc : s.srcReady src = true)
    (ha : s.unset.a = false) (hf : aluUsesCarry op = true → s.unset.f = false) :
    exec (.alu op src) s = .next (((s.afterSrc src).afterAlu op r).tick (srcCycles src)) := by
  rw [← hr, ← flagC_flags]
  exact exec_of_ready (shapeOf_alu op src) ⟨hf, hsrc, ha⟩

/-- Settles O43: the result is `add8`, without a carry-in for ADD. -/
theorem addByte : Obligations.AddByte := by
  unfold Obligations.AddByte
  intro s src hsrc ha
  have hadd := add8_eq s.a (s.src src) false
  simp only [Bool.false_eq_true, if_false, Bool.toNat_false, Nat.add_zero, BitVec.add_zero] at hadd
  exact ⟨exec_alu (op := .add) hadd hsrc ha nofun,
    fun hf => exec_alu (op := .adc) (add8_eq s.a (s.src src) (flagC s.f)) hsrc ha fun _ => hf⟩

/-- Settles O44: the result is `sub8`, without a carry-in for SUB and for CP, which keeps A. -/
theorem subtractByte : Obligations.SubtractByte := by
  unfold Obligations.SubtractByte
  intro s src hsrc ha
  have hsub := sub8_eq s.a (s.src src) false
  simp only [Bool.false_eq_true, if_false, Bool.toNat_false, Nat.add_zero, BitVec.sub_zero] at hsub
  have hcp : alu8 .cp s.a (s.src src) false = { sub8 s.a (s.src src) false with value := s.a } := rfl
  rw [hsub] at hcp
  have hexec := exec_alu (op := .cp) hcp hsrc ha nofun
  exact ⟨⟨exec_alu (op := .sub) hsub hsrc ha nofun, hexec⟩,
    fun hf => exec_alu (op := .sbc) (sub8_eq s.a (s.src src) (flagC s.f)) hsrc ha fun _ => hf⟩

/-- Settles O45: the result is `logic8` of the bitwise operation, which names no carry. -/
theorem logicByte : Obligations.LogicByte := by
  unfold Obligations.LogicByte
  intro s src hsrc ha
  exact ⟨exec_alu (op := .and) rfl hsrc ha nofun, exec_alu (op := .xor) rfl hsrc ha nofun,
    exec_alu (op := .or) rfl hsrc ha nofun⟩

/-! ### INC and DEC, CPL, SCF and CCF -/

/-- Settles O46: the operand is read, stored one higher or lower, and its half carry shows in what was stored. -/
theorem incrementDecrementByte : Obligations.IncrementDecrementByte := by
  unfold Obligations.IncrementDecrementByte
  intro s o hread hf
  have hc : flagC s.flags = s.f.getLsbD 4 := flagC_flags s
  rw [← hc]
  refine ⟨fun hup => ?_, fun hdown => ?_⟩
  · rw [← incHalf_eq]
    rw [← inc8_eq] at hup ⊢
    exact exec_of_ready (shapeOf_inc o) ⟨hread, hup, hf⟩
  · rw [← decHalf_eq]
    rw [← dec8_eq] at hdown ⊢
    exact exec_of_ready (shapeOf_dec o) ⟨hread, hdown, hf⟩

/-- Settles O49: each is its shape, ready where the cells it reads hold values. -/
theorem accumulatorAndCarry : Obligations.AccumulatorAndCarry := by
  unfold Obligations.AccumulatorAndCarry
  intro s hf
  have hz : flagZ s.flags = s.f.getLsbD 7 := flagZ_flags s
  have hc : flagC s.flags = s.f.getLsbD 4 := flagC_flags s
  rw [← hz, ← hc]
  exact ⟨fun ha => exec_of_ready (x := .cpl 4) rfl ⟨ha, hf⟩, exec_of_ready (x := .scf 4) rfl hf,
    exec_of_ready (x := .ccf 4) rfl hf⟩

/-! ### DAA -/

/-- DAA adjusts the low digit: on H, and after an addition on a digit above 9 (43_alu8.md R163). -/
def daaLow (a : Byte) (n h : Bool) : Bool := h || (!n && decide (9 < a.toNat % 16))

/-- DAA adjusts the high digit, which is also its new C: on C, and after an addition on an A above 0x99 (43_alu8.md R163). -/
def daaHigh (a : Byte) (n c : Bool) : Bool := c || (!n && decide (0x99 < a.toNat))

/-- The adjustment of the digits that DAA adjusts (43_alu8.md R163). -/
def daaDelta (low high : Bool) : Byte := (if low then 0x06#8 else 0x00#8) + (if high then 0x60#8 else 0x00#8)

/-- A with the adjustment subtracted after a subtraction and added after an addition (43_alu8.md R163). -/
def daaValue (a : Byte) (n low high : Bool) : Byte := if n then a - daaDelta low high else a + daaDelta low high

/-- The high digit's adjustment and then the low digit's are one addition. -/
theorem add_daaDelta (a : Byte) (low high : Bool) :
    a + daaDelta low high =
      if low then (if high then a + 0x60#8 else a) + 0x06#8 else if high then a + 0x60#8 else a := by
  cases low <;> cases high <;> simp [daaDelta, BitVec.add_assoc]

/-- The high digit's adjustment and then the low digit's are one subtraction. -/
theorem sub_daaDelta (a : Byte) (low high : Bool) :
    a - daaDelta low high =
      if low then (if high then a - 0x60#8 else a) - 0x06#8 else if high then a - 0x60#8 else a := by
  cases low <;> cases high <;> simp [daaDelta, BitVec.sub_sub]

theorem daaDelta_toNat (low high : Bool) :
    (daaDelta low high).toNat = (if low then 0x06 else 0) + (if high then 0x60 else 0) := by
  cases low <;> cases high <;> rfl

/-- The high digit's adjustment leaves the low digit, so the low digit may be looked at before it. -/
theorem daaLow_add_0x60 (a : Byte) (n h high : Bool) : daaLow (if high then a + 0x60#8 else a) n h = daaLow a n h := by
  have hlow : (a + 0x60#8).toNat % 16 = a.toNat % 16 := by
    rw [BitVec.toNat_add, BitVec.toNat_ofNat]
    omega
  cases high
  · rfl
  · simp only [if_true, daaLow, hlow]

/-- DAA makes both adjustments at once. -/
theorem daa8_eq (a : Byte) (n h c : Bool) :
    daa8 a n h c = (daaValue a n (daaLow a n h) (daaHigh a n c), daaHigh a n c) := by
  cases n
  case true =>
    have hsub60 (v : Byte) : BitVec.ofInt 8 ((v.toNat : Int) - 0x60) = v - 0x60#8 := ofInt_toNat_sub v 0x60
    have hsub6 (v : Byte) : BitVec.ofInt 8 ((v.toNat : Int) - 0x06) = v - 0x06#8 := ofInt_toNat_sub v 0x06
    simp [daa8, daaValue, sub_daaDelta, daaLow, daaHigh, hsub60, hsub6]
  case false =>
    rw [daaValue, ← daaLow_add_0x60 a false h (daaHigh a false c), if_neg nofun, add_daaDelta]
    simp only [daa8, ofNat_toNat_add]
    rfl

theorem flagH_flags (s : State) : flagH s.flags = flagH s.f := by simp [flagH, State.flags]

/-- Settles O47: DAA is its shape, with both adjustments made at once (`daa8_eq`). -/
theorem decimalAdjust : Obligations.DecimalAdjust := by
  unfold Obligations.DecimalAdjust
  intro s ha hf
  have hdaa := exec_of_ready (i := .daa) (x := .daa 4) rfl (s := s) ⟨ha, hf⟩
  rw [Shape.after, daa8_eq, flagN_flags, flagH_flags, flagC_flags] at hdaa
  exact hdaa

/-! ### DAA on decimal digits -/

theorem bcd_toNat {x : Nat} (h : x < 100) : (bcd x).toNat = x / 10 * 16 + x % 10 := by
  rw [bcd, BitVec.toNat_ofNat]
  omega

theorem add8_value_toNat (a b : Byte) (c : Bool) :
    (add8 a b c).value.toNat = (a.toNat + b.toNat + c.toNat) % 256 := by
  rw [← bit01_eq_toNat]
  exact BitVec.toNat_ofNat ..

theorem sub8_value_toNat (a b : Byte) (c : Bool) :
    (sub8 a b c).value.toNat = (a.toNat + 512 - b.toNat - c.toNat) % 256 := by
  have hb := b.isLt
  have hc := c.toNat_le
  rw [sub8, BitVec.toNat_ofInt, bit01_eq_toNat]
  omega

/-- DAA after an addition adjusts the low digit where the low digits and the carry-in reach 10, and the high digit where the
bytes and the carry-in reach 0x9A. -/
theorem daa8_add8 (a b : Byte) (c : Bool) :
    daa8 (add8 a b c).value (add8 a b c).n (add8 a b c).h (add8 a b c).c =
      ((add8 a b c).value + daaDelta (decide (10 ≤ a.toNat % 16 + b.toNat % 16 + c.toNat))
        (decide (0x9A ≤ a.toNat + b.toNat + c.toNat)), decide (0x9A ≤ a.toNat + b.toNat + c.toNat)) := by
  have hlow : daaLow (add8 a b c).value false (add8 a b c).h =
      decide (10 ≤ a.toNat % 16 + b.toNat % 16 + c.toNat) := by
    rw [daaLow, add8_value_toNat, add8_eq, Bool.not_false, Bool.true_and, ← Bool.decide_or, decide_eq_decide]
    omega
  have hhigh : daaHigh (add8 a b c).value false (add8 a b c).c = decide (0x9A ≤ a.toNat + b.toNat + c.toNat) := by
    rw [daaHigh, add8_value_toNat, add8_eq, Bool.not_false, Bool.true_and, ← Bool.decide_or, decide_eq_decide]
    omega
  rw [← hlow, ← hhigh]
  exact daa8_eq ..

/-- DAA after a subtraction adjusts the digits that borrowed: N is set, so it looks at H and C alone. -/
theorem daa8_sub8 (a b : Byte) (c : Bool) :
    daa8 (sub8 a b c).value (sub8 a b c).n (sub8 a b c).h (sub8 a b c).c =
      ((sub8 a b c).value - daaDelta (sub8 a b c).h (sub8 a b c).c, (sub8 a b c).c) := by
  rw [daa8_eq]
  simp [daaValue, daaLow, daaHigh, sub8_eq]

/-- The BCD bytes and the carry-in reach 0x9A exactly where the sum reaches 100, and their low digits are the units. -/
theorem daa8_add8_bcd {x y : Nat} (hx : x < 100) (hy : y < 100) (c : Bool) :
    daa8 (add8 (bcd x) (bcd y) c).value (add8 (bcd x) (bcd y) c).n (add8 (bcd x) (bcd y) c).h (add8 (bcd x) (bcd y) c).c =
      (bcd ((x + y + c.toNat) % 100), decide (100 ≤ x + y + c.toNat)) := by
  have hc := c.toNat_le
  have hunits : decide (10 ≤ (bcd x).toNat % 16 + (bcd y).toNat % 16 + c.toNat) =
      decide (10 ≤ x % 10 + y % 10 + c.toNat) := by
    rw [decide_eq_decide, bcd_toNat hx, bcd_toNat hy]
    omega
  have hhundred : decide (0x9A ≤ (bcd x).toNat + (bcd y).toNat + c.toNat) = decide (100 ≤ x + y + c.toNat) := by
    rw [decide_eq_decide, bcd_toNat hx, bcd_toNat hy]
    omega
  rw [daa8_add8, hunits, hhundred, Prod.mk.injEq]
  refine ⟨BitVec.eq_of_toNat_eq ?_, rfl⟩
  rw [BitVec.toNat_add, add8_value_toNat, daaDelta_toNat, bcd_toNat hx, bcd_toNat hy, bcd_toNat (Nat.mod_lt _ (by decide))]
  simp only [decide_eq_true_eq]
  split_ifs <;> omega

/-- A BCD byte is less than another with the carry-in exactly where its number is, and their low digits are the units. -/
theorem daa8_sub8_bcd {x y : Nat} (hx : x < 100) (hy : y < 100) (c : Bool) :
    daa8 (sub8 (bcd x) (bcd y) c).value (sub8 (bcd x) (bcd y) c).n (sub8 (bcd x) (bcd y) c).h (sub8 (bcd x) (bcd y) c).c =
      (bcd ((x + 100 - y - c.toNat) % 100), decide (x + 100 - y - c.toNat < 100)) := by
  have hc := c.toNat_le
  have hunits : (sub8 (bcd x) (bcd y) c).h = decide (x % 10 < y % 10 + c.toNat) := by
    rw [sub8_eq, decide_eq_decide, bcd_toNat hx, bcd_toNat hy]
    omega
  have hborrow : (sub8 (bcd x) (bcd y) c).c = decide (x + 100 - y - c.toNat < 100) := by
    rw [sub8_eq, decide_eq_decide, bcd_toNat hx, bcd_toNat hy]
    omega
  rw [daa8_sub8, hunits, hborrow, Prod.mk.injEq]
  refine ⟨BitVec.eq_of_toNat_eq ?_, rfl⟩
  rw [BitVec.toNat_sub, sub8_value_toNat, daaDelta_toNat, bcd_toNat hx, bcd_toNat hy, bcd_toNat (Nat.mod_lt _ (by decide))]
  simp only [decide_eq_true_eq]
  split_ifs <;> omega

/-- Settles O48: for a sum and for a difference of BCD bytes. -/
theorem decimalAdjustGivesDecimalDigits : Obligations.DecimalAdjustGivesDecimalDigits := by
  unfold Obligations.DecimalAdjustGivesDecimalDigits
  intro x y c hx hy
  exact ⟨daa8_add8_bcd hx hy c, daa8_sub8_bcd hx hy c⟩

end Sys2Proof.Machine
end

section
/-! The 16-bit arithmetic (44_alu16.md). The results of `inc16`, `dec16` and `addHl16` are bit-vector sums and differences with
their carries; each instruction is then its shape, ready where the pairs it reads hold values. -/

namespace Sys2Proof.Machine

/-- `HL + v` as bit-vector addition, with the carries out of bits 11 and 15 (44_alu16.md R172). -/
theorem addHl16_eq (x y : Word) :
    addHl16 x y =
      (x + y, decide (4096 ≤ x.toNat % 4096 + y.toNat % 4096), decide (65536 ≤ x.toNat + y.toNat)) := by
  have hsum : BitVec.ofNat 16 (x.toNat + y.toNat) = x + y := by
    rw [BitVec.ofNat_add, BitVec.ofNat_toNat, BitVec.ofNat_toNat, BitVec.setWidth_eq, BitVec.setWidth_eq]
  rw [addHl16, hsum]
  rfl

/-- Settles O50: INC and DEC write the pair one higher or lower; ADD HL writes the sum and its carries, HL and F in either
order. -/
theorem wordArithmetic : Obligations.WordArithmetic := by
  unfold Obligations.WordArithmetic
  intro s p hp
  refine ⟨?_, ?_, fun hhl hf => ?_⟩
  · rw [← inc16_eq]
    exact exec_of_ready (shapeOf_incRp p) hp
  · rw [← dec16_eq]
    exact exec_of_ready (shapeOf_decRp p) hp
  · have hadd := exec_of_ready (shapeOf_addHl p) (s := s) ⟨hp, hhl, hf⟩
    rw [Shape.after, addHl16_eq, flagZ_flags] at hadd
    exact hadd

end Sys2Proof.Machine
end

section
/-! The rotates, shifts and bit operations (45_rotate_shift_bit.md). The results that `rotate8` writes as sums of naturals are
the rotates and shifts of bit vectors, and the masks of RES and SET change one bit; each instruction is then its shape, ready
where the cells it reads hold values and its operand can be read and stored. -/

namespace Sys2Proof.Machine

/-! ### The results of the rotates and shifts -/

/-- The doubled byte and the bit shifted in, narrowed to eight bits, are the left shift with that bit at the bottom. -/
theorem ofNat_shiftLeft_in (v : Byte) (low : Bool) :
    BitVec.ofNat 8 (2 * v.toNat + bit01 low) = (v <<< 1) ||| (if low then 0x01#8 else 0x00#8) := by
  revert v low; decide

/-- The halved byte and the bit shifted in are the right shift with that bit at the top. -/
theorem ofNat_shiftRight_in (v : Byte) (high : Bool) :
    BitVec.ofNat 8 (v.toNat / 2 + 0x80 * bit01 high) = (v >>> 1) ||| (if high then 0x80#8 else 0x00#8) := by
  revert v high; decide

/-- A rotate to the left shifts in the bit that leaves at the top. -/
theorem shiftLeft_in_msb (v : Byte) : (v <<< 1) ||| (if v.getLsbD 7 then 0x01#8 else 0x00#8) = v.rotateLeft 1 := by
  revert v; decide

/-- A rotate to the right shifts in the bit that leaves at the bottom. -/
theorem shiftRight_in_lsb (v : Byte) : (v >>> 1) ||| (if v.getLsbD 0 then 0x80#8 else 0x00#8) = v.rotateRight 1 := by
  revert v; decide

/-- An arithmetic shift to the right shifts in the sign. -/
theorem shiftRight_in_msb (v : Byte) : (v >>> 1) ||| (if v.getLsbD 7 then 0x80#8 else 0x00#8) = v.sshiftRight 1 := by
  revert v; decide

/-- The exchange of the two nibbles is a rotate by four places. -/
theorem ofNat_swap_nibbles (v : Byte) : BitVec.ofNat 8 (v.toNat % 16 * 16 + v.toNat / 16) = v.rotateLeft 4 := by
  revert v; decide

/-- The operand rotated or shifted, as an operation on bit vectors (45_rotate_shift_bit.md R185 to R192). -/
def rotValue (op : RotOp) (v : Byte) (carry : Bool) : Byte :=
  match op with
  | .rlc => v.rotateLeft 1
  | .rrc => v.rotateRight 1
  | .rl => (v <<< 1) ||| (if carry then 0x01#8 else 0x00#8)
  | .rr => (v >>> 1) ||| (if carry then 0x80#8 else 0x00#8)
  | .sla => v <<< 1
  | .sra => v.sshiftRight 1
  | .swap => v.rotateLeft 4
  | .srl => v >>> 1

/-- The bit that leaves the operand, none for SWAP (45_rotate_shift_bit.md R185 to R192). -/
def rotBitOut (op : RotOp) (v : Byte) : Bool :=
  match op with
  | .rlc | .rl | .sla => v.getLsbD 7
  | .rrc | .rr | .sra | .srl => v.getLsbD 0
  | .swap => false

/-- `rotate8` by the bit it shifts in: the bit that leaves, the carry, the sign, or 0. -/
theorem rotate8_eq (op : RotOp) (v : Byte) (carry : Bool) :
    rotate8 op v (rotUsesCarry op && carry) = (rotValue op v carry, rotBitOut op v) := by
  cases op
  case rlc => simp only [rotate8, rotValue, rotBitOut, ofNat_shiftLeft_in, shiftLeft_in_msb]
  case rrc => simp only [rotate8, rotValue, rotBitOut, ofNat_shiftRight_in, shiftRight_in_lsb]
  case rl => simp only [rotate8, rotValue, rotBitOut, rotUsesCarry, ofNat_shiftLeft_in, Bool.true_and]
  case rr => simp only [rotate8, rotValue, rotBitOut, rotUsesCarry, ofNat_shiftRight_in, Bool.true_and]
  case sla => simp [rotate8, rotValue, rotBitOut, ofNat_shiftLeft_in]
  case sra => simp only [rotate8, rotValue, rotBitOut, ofNat_shiftRight_in, shiftRight_in_msb]
  case swap => simp only [rotate8, rotValue, rotBitOut, ofNat_swap_nibbles]
  case srl => simp [rotate8, rotValue, rotBitOut, ofNat_shiftRight_in]

theorem rotUsesCarry_iff (op : RotOp) : rotUsesCarry op = true ↔ op = .rl ∨ op = .rr := by
  cases op <;> decide

/-! ### The rotates and shifts -/

/-- A one-byte rotate writes A and the bit that left, and clears Z. -/
theorem exec_rotA {i : Instr} {op : RotOp} (hi : shapeOf i = .rotA op 4) {s : State} (ha : s.unset.a = false)
    (hf : rotUsesCarry op = true → s.unset.f = false) :
    exec i s = .next (((s.setReg .a (rotValue op s.a (flagC s.f))).setF
      (packFlags false false false (rotBitOut op s.a))).tick 4) := by
  have hexec := exec_of_ready hi (s := s) ⟨hf, ha⟩
  rw [Shape.after, flagC_flags, rotate8_eq] at hexec
  exact hexec

/-- Settles O51: RLCA and RRCA name no carry, so only RLA and RRA need F. -/
theorem rotateAccumulator : Obligations.RotateAccumulator := by
  unfold Obligations.RotateAccumulator
  intro s ha
  exact ⟨exec_rotA (op := .rlc) rfl ha nofun, exec_rotA (op := .rrc) rfl ha nofun,
    fun hf => ⟨exec_rotA (op := .rl) rfl ha fun _ => hf, exec_rotA (op := .rr) rfl ha fun _ => hf⟩⟩

/-- Settles O52: the operand is read and stored as `rotate8` gives it, which is `rotValue` with the bit `rotBitOut`. -/
theorem rotateAndShift : Obligations.RotateAndShift := by
  unfold Obligations.RotateAndShift
  intro s op o hread hf v r c hstore
  have hrot : rotate8 op (s.opnd o) (rotUsesCarry op && flagC s.flags) = (r, c) := by
    rw [flagC_flags]
    exact rotate8_eq op v (flagC s.f)
  have hexec := exec_of_ready (shapeOf_rot op o) (s := s)
    ⟨fun huses => hf ((rotUsesCarry_iff op).mp huses), hread, by rw [hrot]; exact hstore⟩
  rw [Shape.after, hrot] at hexec
  exact hexec

/-! ### The bit operations -/

/-- Settles O53: BIT is its shape, ready where the operand can be read and F holds a value. -/
theorem testBit : Obligations.TestBit := by
  unfold Obligations.TestBit
  intro s y o hread hf
  have hc : flagC s.flags = s.f.getLsbD 4 := flagC_flags s
  rw [← hc]
  exact exec_of_ready (shapeOf_bit y o) ⟨hread, hf⟩

/-- The mask of one bit has that bit alone. -/
theorem getLsbD_one_shiftLeft (b : Nat) {j : Nat} (hj : j < 8) : (1#8 <<< b).getLsbD j = decide (j = b) := by
  simp only [BitVec.getLsbD_shiftLeft, BitVec.getLsbD_one, hj]
  grind

theorem getLsbD_clearBit8 (b : Nat) (v : Byte) {j : Nat} (hj : j < 8) :
    (clearBit8 b v).getLsbD j = (decide (j ≠ b) && v.getLsbD j) := by
  rw [clearBit8, BitVec.getLsbD_and, BitVec.getLsbD_not, getLsbD_one_shiftLeft b hj]
  simp [hj, Bool.and_comm]

theorem getLsbD_setBit8 (b : Nat) (v : Byte) {j : Nat} (hj : j < 8) :
    (setBit8 b v).getLsbD j = (decide (j = b) || v.getLsbD j) := by
  rw [setBit8, BitVec.getLsbD_or, getLsbD_one_shiftLeft b hj, Bool.or_comm]

/-- Settles O54: the bytes are `clearBit8` and `setBit8` of the operand, which RES and SET store. -/
theorem clearAndSetBit : Obligations.ClearAndSetBit := by
  unfold Obligations.ClearAndSetBit
  intro s y o hread
  refine ⟨clearBit8 (bitNumber y) (s.opnd o), setBit8 (bitNumber y) (s.opnd o), fun j hj => ⟨?_, ?_⟩,
    fun hzero => ?_, fun hone => ?_⟩
  · exact getLsbD_clearBit8 _ _ hj
  · exact getLsbD_setBit8 _ _ hj
  · exact exec_of_ready (shapeOf_res y o) ⟨hread, hzero⟩
  · exact exec_of_ready (shapeOf_set y o) ⟨hread, hone⟩

end Sys2Proof.Machine
end

section
/-! The control flow (46_control.md). Each jump, call and return is its shape; a conditional one takes the branch that
`condHolds` picks, on F itself, since a condition looks only at bits of the high nibble. A return after a call on RAM_BUS pops
what the call pushed. -/

namespace Sys2Proof.Machine

/-- The low nibble of F is no flag, so masking it changes no condition (10_state.md R24, 46_control.md R200). -/
theorem condHolds_flags (k : Cond) (s : State) : condHolds k s.flags = condHolds k s.f := by
  cases k <;> simp only [condHolds, flagZ_flags, flagC_flags]

/-- `exec_of_ready` with the effect and the count of the shape worked out. -/
theorem exec_of_effect {i : Instr} {x : Shape} (hx : shapeOf i = x) {s t : State} {n : Nat} (hr : x.ready s)
    (ht : x.after s = t) (hn : x.count s = n) : exec i s = .next (t.tick n) := by
  subst ht hn
  exact exec_of_ready hx hr

/-! ### Jumps -/

/-- Settles O55: the conditional forms by the branch of their shape that the condition picks. -/
theorem jumps : Obligations.Jumps := by
  unfold Obligations.Jumps
  intro s k a e
  refine ⟨?_, ?_, fun hhl => ?_, fun hf hk => ?_, fun hf hk => ?_⟩
  · exact exec_of_ready (x := .jp a 16) rfl trivial
  · exact exec_of_ready (x := .jr e 12) rfl trivial
  · exact exec_of_ready (x := .jpHl 4) rfl hhl
  · rw [← condHolds_flags] at hk
    exact ⟨exec_of_effect (shapeOf_jpCc k a) hf (if_pos hk) (if_pos hk),
      exec_of_effect (shapeOf_jrCc k e) hf (if_pos hk) (if_pos hk)⟩
  · rw [← condHolds_flags, ← Bool.not_eq_true] at hk
    exact ⟨exec_of_effect (shapeOf_jpCc k a) hf (if_neg hk) (if_neg hk),
      exec_of_effect (shapeOf_jrCc k e) hf (if_neg hk) (if_neg hk)⟩

/-! ### Calls and returns -/

/-- CALL pushes the address past it where both of its bytes can be written. -/
theorem exec_callA16 {s : State} (a : Word) (hpush : s.canPush s.pc = true) :
    exec (.callA16 a) s = .next (((s.pushed s.pc).setPc a).tick 24) :=
  exec_of_ready (x := .call a 24) rfl hpush

/-- RET goes to the word on the stack where both of its bytes can be read. -/
theorem exec_ret {s : State} (hpop : s.canPop = true) : exec .ret s = .next ((s.popped.setPc s.top).tick 16) :=
  exec_of_ready (x := .ret 16) rfl hpop

/-- Settles O56: a call that is not taken needs no stack. -/
theorem calls : Obligations.Calls := by
  unfold Obligations.Calls
  intro s k a y
  refine ⟨fun hpush => ⟨exec_callA16 a hpush, exec_of_ready (shapeOf_rst y) hpush, fun hf hk => ?_⟩, fun hf hk => ?_⟩
  · rw [← condHolds_flags] at hk
    exact exec_of_effect (shapeOf_callCc k a) ⟨hf, fun _ => hpush⟩ (if_pos hk) (if_pos hk)
  · rw [← condHolds_flags, ← Bool.not_eq_true] at hk
    exact exec_of_effect (shapeOf_callCc k a) ⟨hf, fun htaken => absurd htaken hk⟩ (if_neg hk) (if_neg hk)

/-- Settles O57: a return that is not taken needs no stack. -/
theorem returns : Obligations.Returns := by
  unfold Obligations.Returns
  intro s k
  refine ⟨fun hpop => ⟨exec_ret hpop, exec_of_ready (x := .reti 16) rfl hpop, fun hf hk => ?_⟩, fun hf hk => ?_⟩
  · rw [← condHolds_flags] at hk
    exact exec_of_effect (shapeOf_retCc k) ⟨hf, fun _ => hpop⟩ (if_pos hk) (if_pos hk)
  · rw [← condHolds_flags, ← Bool.not_eq_true] at hk
    exact exec_of_effect (shapeOf_retCc k) ⟨hf, fun htaken => absurd htaken hk⟩ (if_neg hk) (if_neg hk)

/-- Settles O41: what CALL pushed is on the stack it left (`State.pushed_pops`), under a PC and a counter that a pop does not
read, so RET finds the address there and moves SP back. -/
theorem returnComesBackFromCall : Obligations.ReturnComesBackFromCall := by
  unfold Obligations.ReturnComesBackFromCall
  intro s r a hram hwf hpush hread1 hread2 hif1 hif2
  obtain ⟨hpop, htop, hpopped⟩ := State.pushed_pops hram s.pc hwf hpush hread1 hread2 hif1 hif2
  have hpop' : (((s.pushed s.pc).setPc a).tick 24).canPop = true := by rw [State.tick_canPop, State.setPc_canPop, hpop]
  refine ⟨_, _, exec_callA16 a hpush, rfl, exec_ret hpop', ?_, ?_⟩
  · rw [State.tick_pc, State.setPc_pc, State.tick_top, State.setPc_top, htop]
  · rw [State.tick_sp, State.setPc_sp, State.tick_popped, State.tick_sp, State.setPc_popped, State.setPc_sp, hpopped,
      State.setSp_sp]

end Sys2Proof.Machine
end

section
/-! The system instructions (47_system.md). Where one completes, it is its shape; where HALT or STOP chooses its fault, its
operation reaches the raise and nothing before it stops it. -/

namespace Sys2Proof.Machine

/-- Settles O58: the three shapes need nothing to be ready. -/
theorem nopDiEi : Obligations.NopDiEi := by
  unfold Obligations.NopDiEi
  intro s
  exact ⟨exec_of_ready (x := .nop 4) rfl trivial, exec_of_ready (x := .di 4) rfl trivial,
    exec_of_ready (x := .ei 4) rfl trivial⟩

/-- HALT under the halt quirk's conditions (47_system.md R221), where the parameter asks for the fault. -/
theorem haltOp_fault {s : State} (n : Nat) (hime : s.ime = false) (hie : s.unset.ie = false) (hif : s.unset.ifr = false)
    (hp : pendingOf s.ie s.ifr ≠ 0#5) (hq : s.haltBugPolicy = .fault) :
    haltOp n s = .error (.haltBugFault s.stepPc s.bus) s := by
  have hread : readPending s = .ok (pendingOf s.ie s.ifr) s := (readPending_ok_iff s s _).mpr ⟨hie, hif, rfl, rfl⟩
  unfold haltOp
  rw [Op.bind_of_ok (show Op.state s = .ok s s from rfl), if_neg (by simp [hime]), Op.bind_of_ok hread, if_neg hp, hq]
  rfl

/-- STOP where the parameter asks for the fault (47_system.md R222). -/
theorem stopOp_fault {s : State} (n : Nat) (hq : s.stopPolicy = .fault) :
    stopOp n s = .error (.stopFault s.stepPc s.bus) s := by
  unfold stopOp
  rw [Op.bind_of_ok (show Op.state s = .ok s s from rfl), hq]
  rfl

/-- Settles O59: the completing cases by the branch of HALT's effect that ime and the sources pick, the others by the raise. -/
theorem haltAndStop : Obligations.HaltAndStop := by
  unfold Obligations.HaltAndStop
  intro s x
  refine ⟨fun hime => ?_, fun hime hie hif => ⟨fun hp => ?_, fun hp hq => ?_, fun hp hq => ?_⟩, fun hq => ?_, fun hq => ?_⟩
  · exact exec_of_effect (x := .halt 4) rfl (fun hclear => by simp [hime] at hclear) (if_pos (.inl hime)) rfl
  · exact exec_of_effect (x := .halt 4) rfl (fun _ => ⟨hie, hif, .inl hp⟩) (if_pos (.inr hp)) rfl
  · exact exec_of_effect (x := .halt 4) rfl (fun _ => ⟨hie, hif, .inr hq⟩) (if_neg (by simp [hime, hp])) rfl
  · exact (runOp_fault_iff (haltOp 4) s _).mpr ⟨s, haltOp_fault 4 hime hie hif hp hq⟩
  · exact exec_of_ready (x := .stop 4) rfl hq
  · exact (runOp_fault_iff (stopOp 4) s _).mpr ⟨s, stopOp_fault 4 hq⟩

end Sys2Proof.Machine
end

section
/-! What surrounds an instruction (60_exceptions.md R237 to R248): the requests of interrupts and the states the whole system
reaches, the checks at the boundary of a step, and the service of an interrupt. -/

namespace Sys2Proof.Machine

/-! ### Requests and reachable states -/

/-- IF with the bit of source i set: that bit, and the others as they were. -/
theorem getLsbD_or_bit (f : BitVec 5) (i j : Nat) :
    (f ||| 1#5 <<< i).getLsbD j = (f.getLsbD j || (decide (j = i) && decide (i < 5))) := by
  have hbit : (1#5 <<< i).getLsbD j = (decide (j = i) && decide (i < 5)) := by
    rw [BitVec.getLsbD_shiftLeft, BitVec.getLsbD_one, Bool.eq_iff_iff]
    simp
    omega
  rw [BitVec.getLsbD_or, hbit]

/-- Settles O18: the request writes IF alone, with the one bit added. -/
theorem requestSetsOneBit : Obligations.RequestSetsOneBit := by
  unfold Obligations.RequestSetsOneBit
  intro s i
  refine ⟨fun hi _ => ⟨{ s with ifr := s.ifr ||| 1#5 <<< i }, if_pos hi, rfl, ?_, fun j hj => ?_⟩,
    fun hi => if_neg (Nat.not_le.mpr hi)⟩
  · rw [getLsbD_or_bit, decide_eq_true rfl, decide_eq_true (Nat.lt_succ_of_le hi), Bool.and_self, Bool.or_true]
  · rw [getLsbD_or_bit, decide_eq_false hj, Bool.false_and, Bool.or_false]

/-- Each move of the whole system keeps the invariant: a request writes IF only, and a change of the bus leaves a canonical
array. -/
theorem systemMove_inv {s t : State} (hs : s.Inv) (h : SystemMove s t) : t.Inv := by
  cases h with
  | step hstep => exact stepKeepsTheInvariant s t hs hstep
  | interrupt i hi =>
    unfold requestInterrupt at hi
    split at hi
    · cases hi
      exact ⟨hs.busWf, hs.lowNibble, hs.noFault, hs.haltedOnly, hs.stoppedOnly, hs.quirkAllowed, hs.stopAllowed⟩
    · cases hi
  | bus b _ hwf =>
    exact ⟨hwf, hs.lowNibble, hs.noFault, hs.haltedOnly, hs.stoppedOnly, hs.quirkAllowed, hs.stopAllowed⟩

/-- Settles O31: by induction on the moves, from a reset. -/
theorem reachableStatesMeetTheInvariant : Obligations.ReachableStatesMeetTheInvariant := by
  unfold Obligations.ReachableStatesMeetTheInvariant
  intro s hs
  induction hs with
  | reset p hb sp bus hwf => exact resetMeetsTheInvariant p hb sp bus hwf
  | move _ hmove ih => exact systemMove_inv ih hmove

/-! ### The checks at the boundary -/

/-- With IE UNDEF the pending sources cannot be read (log entry 6). -/
theorem readPending_undef_ie {s : State} (h : s.unset.ie = true) :
    readPending s = .error (.undefinedRegisterFault .ie s.stepPc s.bus) s :=
  Op.bind_of_error ((readCell_error_iff ..).mpr ⟨h, rfl, rfl⟩) _

/-- Nor can they with IF UNDEF behind an IE that holds a value. -/
theorem readPending_undef_if {s : State} (hie : s.unset.ie = false) (hif : s.unset.ifr = true) :
    readPending s = .error (.undefinedRegisterFault .ifr s.stepPc s.bus) s := by
  unfold readPending
  rw [Op.bind_of_ok ((readIe_ok_iff ..).mpr ⟨hie, rfl, rfl⟩)]
  exact Op.bind_of_error ((readCell_error_iff ..).mpr ⟨hif, rfl, rfl⟩) _

/-- A stopped core with IF UNDEF cannot tell whether to wake (60_exceptions.md R248). -/
theorem boundary_undef_if {s : State} (hs : s.stopped = true) (hif : s.unset.ifr = true) :
    boundary s = .error (.undefinedRegisterFault .ifr s.stepPc s.bus) s := by
  unfold boundary leaveStop
  refine Op.bind_of_error ?_ _
  rw [Op.bind_of_ok (show Op.state s = .ok s s from rfl), if_pos hs]
  exact Op.bind_of_error ((readCell_error_iff ..).mpr ⟨hif, rfl, rfl⟩) _

/-- A stopped core idles while IF[4] is 0 (60_exceptions.md R248). -/
theorem boundary_stopped {s : State} (hs : s.stopped = true) (hif : s.unset.ifr = false) (h4 : s.ifr.getLsbD 4 = false) :
    boundary s = .ok .idle s := by
  unfold boundary
  rw [Op.bind_of_ok ((leaveStop_ok_iff s s false).mpr (.inr ⟨hs, hif, .inr ⟨h4, rfl, rfl⟩⟩))]
  rfl

/-- A halted core idles while no source is requested (60_exceptions.md R246). -/
theorem boundary_halted {s : State} (hs : s.stopped = false) (hh : s.halted = true) (hie : s.unset.ie = false)
    (hif : s.unset.ifr = false) (hp : pendingOf s.ie s.ifr = 0#5) : boundary s = .ok .idle s := by
  unfold boundary
  rw [Op.bind_of_ok ((leaveStop_ok_iff s s true).mpr (.inl ⟨hs, rfl, rfl⟩)), if_pos rfl,
    Op.bind_of_ok ((leaveHalt_ok_iff s s false).mpr (.inr ⟨hh, hie, hif, .inr ⟨hp, rfl, rfl⟩⟩))]
  rfl

/-- The rest of a piece of pseudocode goes on alike from two states in which its first operation ends alike. -/
theorem Op.bind_congr {α β : Type} {x : Op α} {s u t : State} {a : α} (hs : x s = .ok a t) (hu : x u = .ok a t)
    (f : α → Op β) : (x >>= f) s = (x >>= f) u := by
  rw [Op.bind_of_ok hs, Op.bind_of_ok hu]

/-- A stopped core that wakes goes on as one that is not stopped. -/
theorem boundary_wakes_stop {s : State} (hif : s.unset.ifr = false) (h4 : s.ifr.getLsbD 4 = true) :
    boundary s = boundary { s with stopped := false } := by
  have hwoken : leaveStop { s with stopped := false } = .ok true { s with stopped := false } := leaveStop_leaves nofun
  exact Op.bind_congr (leaveStop_leaves fun _ => ⟨hif, h4⟩) hwoken _

/-- A halted core that wakes goes on as one that is not halted. -/
theorem boundary_wakes_halt {s : State} (hs : s.stopped = false) (hh : s.halted = true) (hie : s.unset.ie = false)
    (hif : s.unset.ifr = false) (hp : pendingOf s.ie s.ifr ≠ 0#5) :
    boundary s = boundary { s with halted := false } := by
  have hstop : leaveStop s = .ok true s := (leaveStop_ok_iff ..).mpr (.inl ⟨hs, rfl, rfl⟩)
  have hstop' : leaveStop { s with halted := false } = .ok true { s with halted := false } :=
    (leaveStop_ok_iff ..).mpr (.inl ⟨hs, rfl, rfl⟩)
  have hhalt : leaveHalt s = .ok true { s with halted := false } :=
    (leaveHalt_ok_iff ..).mpr (.inr ⟨hh, hie, hif, .inl ⟨hp, rfl, rfl⟩⟩)
  have hhalt' : leaveHalt { s with halted := false } = .ok true { s with halted := false } :=
    (leaveHalt_ok_iff ..).mpr (.inl ⟨rfl, rfl, rfl⟩)
  unfold boundary
  rw [Op.bind_of_ok hstop, Op.bind_of_ok hstop']
  exact Op.bind_congr hhalt hhalt' _

/-- Where the checks answer "idle", the step counts 4. -/
theorem step_idle {s t : State} (hf : s.fault = none) (hb : boundary s.begin = .ok .idle t) : step s = .next (t.tick 4) := by
  rw [step_body hf, stepBody, hb]
  rfl

/-- Where they answer "service", the step is the service. -/
theorem step_service {s t : State} (hf : s.fault = none) (hb : boundary s.begin = .ok .service t) :
    step s = runOp service t := by
  rw [step_body hf, stepBody, hb]

/-- A check that faults stops the step. -/
theorem step_boundary_error {s : State} (hf : s.fault = none) {f : Fault} {t : State}
    (hb : boundary s.begin = .error f t) : step s = .fault f := by
  rw [step_body hf, stepBody, hb]

/-- Steps whose checks answer alike are alike. -/
theorem step_congr {s u : State} (hs : s.fault = none) (hu : u.fault = none) (h : boundary s.begin = boundary u.begin) :
    step s = step u := by
  rw [step_body hs, step_body hu, stepBody, stepBody, h]

/-- Settles O15: the stop check is the first, so it alone decides whether the core idles. -/
theorem stoppedCoreWaitsForJoypad : Obligations.StoppedCoreWaitsForJoypad := by
  unfold Obligations.StoppedCoreWaitsForJoypad
  intro s hf hs hif
  exact ⟨fun h4 => step_idle hf (boundary_stopped (s := s.begin) hs hif h4),
    fun h4 => step_congr hf hf (boundary_wakes_stop (s := s.begin) hif h4)⟩

/-- Settles O16: past the stop check the halt check decides. -/
theorem haltedCoreWaitsForARequest : Obligations.HaltedCoreWaitsForARequest := by
  unfold Obligations.HaltedCoreWaitsForARequest
  intro s hf hs hh hie hif
  exact ⟨fun hp => step_idle hf (boundary_halted (s := s.begin) hs hh hie hif hp),
    fun hp => step_congr hf hf (boundary_wakes_halt (s := s.begin) hs hh hie hif hp)⟩

/-! ### The service of an interrupt -/

/-- A service completes exactly where IE and IF hold values and PC can be pushed, and counts 20 (60_exceptions.md R240,
R241). -/
theorem service_ok_iff (s t : State) (n : Nat) :
    service s = .ok n t ↔ s.unset.ie = false ∧ s.unset.ifr = false ∧ s.serving.canPush (serviceReturn s) = true ∧ n = 20 ∧
      t = (s.serving.pushed (serviceReturn s)).setPc (vectorOf (lowestSource (pendingOf s.ie s.ifr))) := by
  simp only [service, Op.bind_ok_iff, readPending_ok_iff, Op.state_ok_iff, Op.update_ok_iff, push16_ok_iff, writePc_ok_iff,
    Op.pure_ok_iff]
  constructor
  · rintro ⟨_, _, ⟨hie, hif, rfl, rfl⟩, _, _, ⟨rfl, rfl⟩, _, _, rfl, _, _, ⟨hpush, rfl⟩, _, _, rfl, rfl, rfl⟩
    exact ⟨hie, hif, hpush, rfl, rfl⟩
  · rintro ⟨hie, hif, hpush, rfl, rfl⟩
    exact ⟨_, _, ⟨hie, hif, rfl, rfl⟩, _, _, ⟨rfl, rfl⟩, (), _, rfl, (), _, ⟨hpush, rfl⟩, (), _, rfl, rfl, rfl⟩

/-- A store does the same to the bus whatever the cells of the core hold. -/
theorem State.storeByte_bus_congr {s u : State} (h : s.bus = u.bus) (a : Word) (v : Byte) :
    (s.storeByte a v).bus = (u.storeByte a v).bus := by
  unfold State.storeByte
  split
  · exact h
  · split
    · exact h
    · simp [h]

/-- Whether a push succeeds is told by SP, its mark and the bus. -/
theorem State.canPush_congr {s u : State} (hbus : s.bus = u.bus) (hsp : s.sp = u.sp) (hmark : s.unset.sp = u.unset.sp)
    (v : Word) : s.canPush v = u.canPush v := by
  simp only [State.canPush, State.canWrite, hsp, hmark, hbus, State.storeByte_bus_congr hbus]

/-- The lowest source is the one below which none is requested (60_exceptions.md R239). -/
theorem lowestSource_eq {p : BitVec 5} {i : Nat} (hi : i < 5) (h : p.getLsbD i = true) (hlow : ∀ j < i, p.getLsbD j = false) :
    lowestSource p = i := by
  unfold lowestSource
  interval_cases i
  all_goals simp only [h, hlow, Nat.reduceLT, if_true, Bool.false_eq_true, if_false]

/-- A source is pending where IE and IF both have its bit (60_exceptions.md R238). -/
theorem getLsbD_pendingOf (ie : Byte) (ifr : BitVec 5) {j : Nat} (hj : j < 5) :
    (pendingOf ie ifr).getLsbD j = (ie.getLsbD j && ifr.getLsbD j) := by
  simp [pendingOf, hj]

/-- What a service pushes: PC, or the address of the HALT under the quirk (60_exceptions.md R240). -/
theorem serviceReturn_eq (s : State) : serviceReturn s = if s.haltBug then s.pc - 1#16 else s.pc := by
  rw [← dec16_eq]
  rfl

/-- Settles O13: the checks choose the service, the push completes, and the lowest pending source is i. -/
theorem serviceTakesTheLowestSource : Obligations.ServiceTakesTheLowestSource := by
  unfold Obligations.ServiceTakesTheLowestSource
  intro s i hf hime hie hif hstop hi hiei hifi hlow hpush
  have hbit : (pendingOf s.ie s.ifr).getLsbD i = true := by rw [getLsbD_pendingOf _ _ hi, hiei, hifi]; rfl
  have hp : pendingOf s.ie s.ifr ≠ 0#5 := fun h => by simp [h] at hbit
  have hsource : lowestSource (pendingOf s.ie s.ifr) = i :=
    lowestSource_eq hi hbit fun j hj => (getLsbD_pendingOf _ _ (hj.trans hi)).trans (hlow j hj)
  have hreturn : serviceReturn s.begin.awake = if s.haltBug then s.pc - 1#16 else s.pc := serviceReturn_eq _
  have hvector : vectorOf i = 0x0040#16 + BitVec.ofNat 16 (8 * i) := BitVec.ofNat_add _ _
  rw [step_service hf (boundary_service (s := s.begin) hime hie hif hstop hp)]
  refine (runOp_next_iff ..).mpr ⟨20, _, (service_ok_iff ..).mpr ⟨hie, hif, ?_, rfl, rfl⟩, ?_⟩
  · rw [hreturn]
    exact (State.canPush_congr (s := s.begin.awake.serving) (u := s) rfl rfl rfl _).trans hpush
  · subst hsource
    rw [hreturn, ← hvector]
    rfl

/-- A push reads SP, then stores the high byte below it and the low byte below that (42_load16_stack.md R140). -/
theorem pushAccesses_eq (s : State) (v : Word) :
    pushAccesses s v = [.cell .sp, .write (s.sp - 1#16) (hiByte v), .write (s.sp - 2#16) (loByte v)] := by
  have htwo : s.sp - 1#16 - 1#16 = s.sp - 2#16 := by bv_omega
  rw [pushAccesses, dec16_eq, dec16_eq, htwo]

section Refused

variable {s : State} (hie : s.unset.ie = false) (hif : s.unset.ifr = false)

include hie hif

/-- A service stops at the first access of its push that does not succeed. -/
theorem runOp_service_refused {before after : List Access} {x : Access} {u : State}
    (hl : pushAccesses s (serviceReturn s) = before ++ x :: after) (hw : s.serving.walk before = .ok u)
    (hx : u.allows x = false) : runOp service s = .fault (u.refusal x) :=
  (runOp_fault_iff ..).mpr (service_walk_error hie hif (hl ▸ State.walk_refused hw hx))

/-- An UNDEF SP is the first thing a push meets. -/
theorem runOp_service_undef_sp (hsp : s.unset.sp = true) :
    runOp service s = .fault (.undefinedRegisterFault .sp s.stepPc s.bus) :=
  runOp_service_refused hie hif (before := []) (u := s.serving) (pushAccesses_eq s _) rfl (congrArg Bool.not hsp)

/-- Where the bus refuses the high byte, nothing has been written. -/
theorem runOp_service_refused_high (hsp : s.unset.sp = false) (hon : onBus (s.sp - 1#16) = true)
    (hrefused : (s.bus.writeByte (s.sp - 1#16) (hiByte (serviceReturn s))).1 = false) :
    runOp service s = .fault (.busFault (.write (s.sp - 1#16) (hiByte (serviceReturn s))) s.stepPc
      (s.bus.writeByte (s.sp - 1#16) (hiByte (serviceReturn s))).2) := by
  have hcell : s.serving.walk [.cell .sp] = .ok s.serving := if_pos (congrArg Bool.not hsp)
  rw [runOp_service_refused hie hif (before := [.cell .sp]) (pushAccesses_eq s _) hcell
    ((State.canWrite_onBus hon ..).trans hrefused), State.refusal_write_onBus hon]
  rfl

/-- Where the bus refuses the low byte, the high byte has been written, which has left the bus as `b`. -/
theorem runOp_service_refused_low {b : Bus} (hb : (s.storeByte (s.sp - 1#16) (hiByte (serviceReturn s))).bus = b)
    (hsp : s.unset.sp = false) (hhigh : s.canWrite (s.sp - 1#16) (hiByte (serviceReturn s)) = true)
    (hon : onBus (s.sp - 2#16) = true) (hrefused : (b.writeByte (s.sp - 2#16) (loByte (serviceReturn s))).1 = false) :
    runOp service s = .fault (.busFault (.write (s.sp - 2#16) (loByte (serviceReturn s))) s.stepPc
      (b.writeByte (s.sp - 2#16) (loByte (serviceReturn s))).2) := by
  have hwalk : s.serving.walk [.cell .sp, .write (s.sp - 1#16) (hiByte (serviceReturn s))] =
      .ok (s.serving.storeByte (s.sp - 1#16) (hiByte (serviceReturn s))) :=
    (if_pos (congrArg Bool.not hsp)).trans (if_pos hhigh)
  have hbus := (State.storeByte_bus_congr (s := s.serving) (u := s) rfl (s.sp - 1#16) (hiByte (serviceReturn s))).trans hb
  rw [runOp_service_refused hie hif (before := [.cell .sp, .write _ _]) (pushAccesses_eq s _) hwalk
    ((State.canWrite_onBus hon ..).trans (hbus ▸ hrefused)), State.refusal_write_onBus hon, hbus, State.storeByte_stepPc]
  rfl

end Refused

/-- Settles O14: the checks stop at an UNDEF cell they read, and a service at the first access of its push that does not
succeed. -/
theorem boundaryStops : Obligations.BoundaryStops := by
  unfold Obligations.BoundaryStops
  intro s hf
  refine ⟨fun hs hif => step_boundary_error hf (boundary_undef_if (s := s.begin) hs hif),
    fun hwake hreads => ⟨fun hie => ?_, fun hie hif => ?_⟩, fun hime hie hif hstop hp => ?_⟩
  · exact step_boundary_error hf (boundary_pending (s := s.begin) hwake hreads (readPending_undef_ie hie))
  · exact step_boundary_error hf (boundary_pending (s := s.begin) hwake hreads (readPending_undef_if hie hif))
  · have hreturn : serviceReturn s.begin.awake = if s.haltBug then s.pc - 1#16 else s.pc := serviceReturn_eq _
    rw [step_service hf (boundary_service (s := s.begin) hime hie hif hstop hp), ← hreturn]
    exact ⟨runOp_service_undef_sp (s := s.begin.awake) hie hif, fun hsp =>
      ⟨runOp_service_refused_high (s := s.begin.awake) hie hif hsp,
        runOp_service_refused_low (s := s.begin.awake) hie hif
          (State.storeByte_bus_congr (s := s.begin.awake) (u := s) rfl _ _) hsp⟩⟩

end Sys2Proof.Machine
end

section
/-! The instruction a step runs (60_exceptions.md R244, R249, R251): it is the one the bytes at PC decode to; what it does to
the delayed enable is told by the byte at PC; and every step adds one of six counts to the counter (R250). -/

namespace Sys2Proof.Machine

/-! ### The decoded instruction -/

/-- PC past an instruction of `n` bytes, one byte short under the halt quirk (60_exceptions.md R247). -/
theorem State.pcAfter_eq (s : State) {n : Nat} (hn : 1 ≤ n) :
    s.pcAfter n = if s.haltBug then s.pc + BitVec.ofNat 16 (n - 1) else s.pc + BitVec.ofNat 16 n := by
  unfold State.pcAfter State.nextPc
  cases s.haltBug with
  | true => rfl
  | false =>
    obtain ⟨m, rfl⟩ := Nat.exists_eq_add_of_le hn
    rw [if_neg Bool.false_ne_true, if_neg Bool.false_ne_true, BitVec.add_assoc, Nat.add_sub_cancel_left, BitVec.ofNat_add]

/-- After a fetch that completes comes the instruction, and then the epilogue (60_exceptions.md R251). -/
theorem execOne_of_fetch {s t : State} {i : Instr} (h : fetchInstr s = .ok i t) :
    execOne exec s = eiEpilogue s.eiPending (exec i t) := by
  rw [execOne, h]

/-- Settles O6: the fetch makes the reads of the instruction's bytes and answers what they decode to. -/
theorem stepRunsTheDecodedInstruction : Obligations.StepRunsTheDecodedInstruction := by
  unfold Obligations.StepRunsTheDecodedInstruction
  intro s u i rest hs addrs pc hd hw
  obtain ⟨-, hlen, -⟩ := decode_length hd
  have hpc : s.begin.pcAfter i.descriptor.length = pc := State.pcAfter_eq _ hlen
  have hwalk : s.begin.walk (s.begin.fetches i.descriptor.length) = .ok { u with stepPc := s.pc } := State.begin_walk s.pc hw
  have hfetch := fetchInstr_walk (s := s.begin) ((congrArg decode (s.begin_bytesAt s.pc s.fetchAddrs)).trans hd)
  rw [hwalk, hpc] at hfetch
  rw [step_runs hs, execOne_of_fetch hfetch]
  change eiEpilogue s.eiPending (exec i { u with stepPc := s.pc, haltBug := false, pc := pc }) = _
  cases exec i { u with stepPc := s.pc, haltBug := false, pc := pc } with
  | next t => simp only [eiEpilogue, State.eiEpilogue, Bool.and_eq_true]
  | fault f => rfl
  | refused r => rfl

/-! ### The delayed enable -/

/-- The first byte of the instruction that is fetched is the byte at PC. -/
theorem fetchInstr_head {s t : State} {i : Instr} (h : fetchInstr s = .ok i t) :
    (encode i).head? = some (s.byteAt s.pc) := by
  obtain ⟨-, ⟨hcb, op2, rfl⟩ | ⟨hcb, b1, b2, rfl⟩⟩ := fetchInstr_opcode h
  · rw [encode_decodeCb, hcb]
    rfl
  · exact head_encode_decodeBase _ b1 b2 hcb

/-- An opcode of the base table at PC is the row that is fetched. -/
theorem fetchInstr_row {s t : State} {i : Instr} {op : Byte} (h : fetchInstr s = .ok i t) (hop : s.byteAt s.pc = op)
    (hcb : op ≠ 0xCB#8) : ∃ b1 b2, i = decodeBase op b1 b2 := by
  subst hop
  obtain ⟨-, ⟨hpc, -⟩ | ⟨-, hrow⟩⟩ := fetchInstr_opcode h
  · exact absurd hpc hcb
  · exact hrow

/-- What an instruction leaves in ime and ei_pending, by the instruction (47_system.md R223, R224, 46_control.md R210). -/
theorem exec_enable {i : Instr} {s t : State} (h : exec i s = .next t) :
    (i = .di → t.ime = false ∧ t.eiPending = false) ∧ (i = .reti → t.ime = true ∧ t.eiPending = false) ∧
    (i = .ei → t.ime = s.ime ∧ t.eiPending = true) ∧
    (i ≠ .di → i ≠ .ei → i ≠ .reti → t.ime = s.ime ∧ t.eiPending = s.eiPending) := by
  refine ⟨?_, ?_, ?_, (controlFrame i s t h).1⟩
  all_goals
    rintro rfl
    obtain ⟨-, rfl⟩ := (exec_next_iff _ s t).mp h
    exact ⟨rfl, rfl⟩

/-- The fetch does not touch ime and ei_pending. -/
theorem State.Fetched.enable {s t : State} (h : s.Fetched t) : t.ime = s.ime ∧ t.eiPending = s.eiPending := by
  obtain ⟨_, _, _, -, rfl⟩ := h
  exact ⟨rfl, rfl⟩

/-- The epilogue sets ime exactly if the enable was pending as the instruction began and still is, and then it is no longer
pending (60_exceptions.md R244). -/
theorem State.eiEpilogue_enable (s : State) (delay : Bool) :
    (s.eiEpilogue delay).ime = (s.ime || delay && s.eiPending) ∧
    (s.eiEpilogue delay).eiPending = (s.eiPending && !delay) := by
  unfold State.eiEpilogue
  cases delay <;> cases hpending : s.eiPending <;> simp [hpending]

/-- Settles O17: the byte at PC tells the instruction, and the epilogue commits an enable that is still pending. -/
theorem enableIsDelayedByOneInstruction : Obligations.EnableIsDelayedByOneInstruction := by
  unfold Obligations.EnableIsDelayedByOneInstruction
  intro s t hs h
  obtain ⟨-, ⟨hstopped, -⟩ | ⟨hhalted, -⟩ | ⟨hime, hp, -⟩ | ⟨i, u, w, -, hfetch, hexec, rfl⟩⟩ := step_next h
  · simp [hs.notStopped] at hstopped
  · simp [hs.notHalted] at hhalted
  · obtain ⟨-, -, hnone⟩ := hs.noService hime
    exact absurd hnone hp
  have hhead : (encode i).head? = some (s.byteAt s.pc) := fetchInstr_head (s := s.begin.awake) hfetch
  have hrow : ∀ op, s.byteAt s.pc = op → op ≠ 0xCB#8 → ∃ b1 b2, i = decodeBase op b1 b2 := fun _ =>
    fetchInstr_row (s := s.begin.awake) hfetch
  obtain ⟨fime, fpending⟩ : u.ime = s.ime ∧ u.eiPending = s.eiPending := (fetchInstr_ok hfetch).1.enable
  obtain ⟨hdi, hreti, hei, hother⟩ := exec_enable hexec
  rw [fime, fpending] at hother
  rw [fime] at hei
  obtain ⟨eime, epending⟩ := w.eiEpilogue_enable s.eiPending
  rw [eime, epending]
  by_cases h1 : s.byteAt s.pc = 0xF3#8
  · obtain ⟨_, _, rfl⟩ := hrow _ h1 (by decide)
    obtain ⟨e1, e2⟩ := hdi rfl
    simp [h1, e1, e2]
  by_cases h2 : s.byteAt s.pc = 0xD9#8
  · obtain ⟨_, _, rfl⟩ := hrow _ h2 (by decide)
    obtain ⟨e1, e2⟩ := hreti rfl
    simp [h2, e1, e2]
  by_cases h3 : s.byteAt s.pc = 0xFB#8
  · obtain ⟨_, _, rfl⟩ := hrow _ h3 (by decide)
    obtain ⟨e1, e2⟩ := hei rfl
    simp [h3, e1, e2]
  · obtain ⟨e1, e2⟩ := hother (by rintro rfl; exact h1 (Option.some.inj hhead).symm)
      (by rintro rfl; exact h3 (Option.some.inj hhead).symm) (by rintro rfl; exact h2 (Option.some.inj hhead).symm)
    simp [h1, h2, h3, e1, e2]

/-! ### The count -/

/-- The counts of the steps (60_exceptions.md R250). -/
def stepCounts : List Nat := [4, 8, 12, 16, 20, 24]

/-- The counts of a shape's row are among those of the steps. -/
def Shape.countsInRange (x : Shape) : Bool :=
  x.cycles.all stepCounts.contains && x.cyclesNotTaken.all stepCounts.contains

/-- Every row of the two tables counts one of the six. -/
theorem shapeOf_countsInRange (i : Instr) : (shapeOf i).countsInRange = true := by
  cases i
  case prefixCb op2 =>
    show (cbShape op2).countsInRange = true
    unfold cbShape
    cases field2 op2 6 <;> cases opnd8 (field3 op2 0) <;> rfl
  all_goals rfl

/-- An instruction that completes adds one of the six counts to the counter. -/
theorem exec_cycles {i : Instr} {s t : State} (h : exec i s = .next t) :
    ∃ n ∈ stepCounts, t.cycles = s.cycles + BitVec.ofNat 64 n := by
  obtain ⟨hready, rfl⟩ := (exec_next_iff i s t).mp h
  refine ⟨(shapeOf i).count s, ?_, by rw [State.tick_cycles, shape_cycles]⟩
  have hrange := shapeOf_countsInRange i
  rw [Shape.countsInRange, Bool.and_eq_true] at hrange
  obtain hcount | hcount := shape_count (shapeOf i) hready
  · simpa [hcount] using hrange.1
  · simpa [hcount] using hrange.2

/-- A service adds 20 (60_exceptions.md R241). -/
theorem runOp_service_cycles {s t : State} (h : runOp service s = .next t) : t.cycles = s.cycles + 20#64 := by
  obtain ⟨n, u, hu, rfl⟩ := (runOp_next_iff ..).mp h
  obtain ⟨-, -, -, rfl, rfl⟩ := (service_ok_iff ..).mp hu
  rw [State.tick_cycles, State.setPc_cycles, State.pushed_cycles]
  rfl

/-- The fetch does not touch the counter. -/
theorem State.Fetched.cycles {s t : State} (h : s.Fetched t) : t.cycles = s.cycles := by
  obtain ⟨_, _, _, -, rfl⟩ := h
  rfl

/-- Nor does the epilogue. -/
theorem State.eiEpilogue_cycles (s : State) (delay : Bool) : (s.eiEpilogue delay).cycles = s.cycles := by
  unfold State.eiEpilogue
  split <;> rfl

/-- Every step that answers a next state adds one of the six counts. -/
theorem step_cycles {s t : State} (h : step s = .next t) : ∃ n ∈ stepCounts, t.cycles = s.cycles + BitVec.ofNat 64 n := by
  obtain ⟨-, ⟨-, rfl⟩ | ⟨-, rfl⟩ | ⟨-, -, -, -, hservice⟩ | ⟨i, u, w, -, hfetch, hexec, rfl⟩⟩ := step_next h
  · exact ⟨4, by decide, rfl⟩
  · exact ⟨4, by decide, rfl⟩
  · exact ⟨20, by decide, runOp_service_cycles (s := s.begin.awake) hservice⟩
  · have hfetched : u.cycles = s.cycles := (fetchInstr_ok hfetch).1.cycles
    rw [State.eiEpilogue_cycles, ← hfetched]
    exact exec_cycles hexec

/-- What a call of `step` that returns Ok has done. -/
theorem stepCall_ok {s t : State} {n : Nat} (h : stepCall s = (.ok n, t)) :
    step s = .next t ∧ n = (t.cycles - s.cycles).toNat := by
  unfold stepCall at h
  split at h
  · cases h
  · cases hstep : step s with
    | next u =>
      rw [hstep] at h
      cases h
      exact ⟨rfl, rfl⟩
    | fault f =>
      rw [hstep] at h
      cases h
    | refused r => exact absurd hstep (step_not_refused s r)

/-- Settles O11: the count returned is what the counter gained, and that is one of the six. -/
theorem stepCountsItsCycles : Obligations.StepCountsItsCycles := by
  unfold Obligations.StepCountsItsCycles
  intro s t n h
  obtain ⟨hstep, rfl⟩ := stepCall_ok h
  obtain ⟨n, hn, hcycles⟩ := step_cycles hstep
  simp only [stepCounts, List.mem_cons, List.not_mem_nil, or_false] at hn
  have hsmall : n < 2 ^ 64 := by omega
  have hgain : (t.cycles - s.cycles).toNat = n := by
    rw [hcycles, add_sub_cancel_left, BitVec.toNat_ofNat, Nat.mod_eq_of_lt hsmall]
  rw [hgain]
  exact ⟨hn, hcycles, hstep⟩

end Sys2Proof.Machine
end

section
/-! The faults of a step (60_exceptions.md R230 to R235). A fault is the refusal of one access, or the stop of an illegal
opcode, of HALT or of STOP; wherever in the step it is raised, the place of the step, the counter, the parameters and the
permissions of the bus are those the step began with. -/

namespace Sys2Proof.Machine

/-! ### Inside a step -/

/-- `u` is a state inside the step that begins in `s`, as far as a fault can tell. -/
structure State.During (s u : State) : Prop where
  stepPc : u.stepPc = s.pc
  cycles : u.cycles = s.cycles
  map : s.bus.sameMap u.bus
  wf : s.bus.wf = true → u.bus.wf = true
  marks : s.unset = Unset.none → u.unset = Unset.none
  quirk : u.haltBugPolicy = s.haltBugPolicy
  stop : u.stopPolicy = s.stopPolicy

/-- The cells of the boundary, PC and IF's value are free. -/
theorem State.During.control {s u : State} {pc : Word} {ime eiPending halted haltBug stopped : Bool} {ifr : BitVec 5}
    (h : s.During u) :
    s.During { u with pc := pc, ime := ime, eiPending := eiPending, halted := halted, haltBug := haltBug,
                      stopped := stopped, ifr := ifr } :=
  ⟨h.stepPc, h.cycles, h.map, h.wf, h.marks, h.quirk, h.stop⟩

theorem State.during_begin (s : State) : s.During s.begin := ⟨rfl, rfl, s.bus.sameMap_refl, id, id, rfl, rfl⟩

theorem State.during_awake (s : State) : s.During s.begin.awake := s.during_begin.control

/-- A store gives IF or IE a value, and takes no other mark away. -/
theorem State.storeByte_allSet {s : State} (h : s.unset = Unset.none) (a : Word) (v : Byte) :
    (s.storeByte a v).unset = Unset.none := by
  unfold State.storeByte
  split
  · simp [State.setIf, h, Unset.none]
  · split
    · simp [State.setIe, h, Unset.none]
    · exact h

/-- An access does not leave the step. -/
theorem State.During.afterDoing {s u : State} (h : s.During u) (x : Access) : s.During (u.afterDoing x) := by
  cases x with
  | cell q => exact h
  | read a =>
    exact ⟨(u.afterRead_stepPc a).trans h.stepPc, (u.afterRead_cycles a).trans h.cycles,
      Bus.sameMap_trans h.map (u.sameMap_afterRead a), fun hw => u.afterRead_wf a (h.wf hw),
      fun hm => (u.afterRead_unset a).trans (h.marks hm), (u.afterRead_haltBugPolicy a).trans h.quirk,
      (u.afterRead_stopPolicy a).trans h.stop⟩
  | write a v =>
    exact ⟨(u.storeByte_stepPc a v).trans h.stepPc, (u.storeByte_cycles a v).trans h.cycles,
      Bus.sameMap_trans h.map (u.sameMap_storeByte a v), fun hw => u.storeByte_wf a v (h.wf hw),
      fun hm => State.storeByte_allSet (h.marks hm) a v, (u.storeByte_haltBugPolicy a v).trans h.quirk,
      (u.storeByte_stopPolicy a v).trans h.stop⟩

/-! ### What can stop a step -/

/-- The faults of a step that begins in `s`: an access that does not succeed, or an instruction that stops of itself. -/
inductive State.Faults (s : State) : Fault → Prop where
  | access {u : State} {x : Access} (hu : s.During u) (hx : u.allows x = false) : s.Faults (u.refusal x)
  | illegal {u : State} (hu : s.During u) (hop : s.byteAt s.pc ∈ illegalOpcodes) :
      s.Faults (.decodeFault u.stepPc (s.byteAt s.pc) u.cycles u.bus)
  | haltBug {u : State} (hu : s.During u) (hop : s.byteAt s.pc = 0x76#8) (hime : s.ime = false)
      (hp : pendingOf s.ie s.ifr ≠ 0#5) (hq : u.haltBugPolicy = .fault) : s.Faults (.haltBugFault u.stepPc u.bus)
  | stop {u : State} (hu : s.During u) (hop : s.byteAt s.pc = 0x10#8) (hq : u.stopPolicy = .fault) :
      s.Faults (.stopFault u.stepPc u.bus)

/-- A list of accesses inside the step faults at an access that does not succeed. -/
theorem State.During.walk_error {s : State} {f : Fault} {l : List Access} :
    ∀ {u : State}, s.During u → u.walk l = .error f → s.Faults f := by
  induction l with
  | nil => intro u _ h; cases h
  | cons x l ih =>
    intro u hu h
    rw [State.walk] at h
    split at h
    case isTrue => exact ih (hu.afterDoing x) h
    case isFalse hx =>
      cases h
      exact .access hu (by simpa using hx)

/-- An operation that makes a list of accesses raises the fault of the list. -/
theorem Op.Makes.error {α : Type} {op : Op α} {s t u : State} {l : List Access} {f : Fault} (h : op.Makes s u l)
    (he : op s = .error f t) : u.walk l = .error f := by
  unfold Op.Makes at h
  split at h
  · obtain ⟨a, t', hok, -⟩ := h
    simp [hok] at he
  · rename_i f' hw
    obtain ⟨t', herr⟩ := h
    rw [he] at herr
    cases herr
    exact hw

/-- The checks fault where IE or IF is UNDEF and they read it. -/
theorem boundary_faults (s : State) : boundary.Guards s.During s.Faults := by
  have hif : readIf.Guards s.During s.Faults :=
    Op.Guards.readCell fun _ hu hq => .access (x := .cell .ifr) hu (congrArg Bool.not hq)
  have hpending : readPending.Guards s.During s.Faults :=
    (Op.Guards.readCell fun _ hu hq => .access (x := .cell .ie) hu (congrArg Bool.not hq)).bind fun _ => hif.bind fun _ =>
      .pure _
  have hstop : leaveStop.Guards s.During s.Faults := by
    refine Op.Guards.state.bind fun _ => ?_
    split
    · refine hif.bind fun _ => ?_
      split
      · exact (Op.Guards.update fun _ hu => hu.control).bind fun _ => .pure _
      · exact .pure _
    · exact .pure _
  have hhalt : leaveHalt.Guards s.During s.Faults := by
    refine Op.Guards.state.bind fun _ => ?_
    split
    · refine hpending.bind fun _ => ?_
      split
      · exact .pure _
      · exact (Op.Guards.update fun _ hu => hu.control).bind fun _ => .pure _
    · exact .pure _
  have hserve : wantsService.Guards s.During s.Faults := by
    refine Op.Guards.state.bind fun _ => ?_
    split
    · exact hpending.bind fun _ => .pure _
    · exact .pure _
  refine hstop.bind fun _ => ?_
  split
  · refine hhalt.bind fun _ => ?_
    split
    · exact hserve.bind fun _ => .pure _
    · exact .pure _
  · exact .pure _

/-- A service inside the step faults where its push does. -/
theorem runOp_service_faults {s u : State} (hu : s.During u) (hie : u.unset.ie = false) (hif : u.unset.ifr = false)
    {f : Fault} (h : runOp service u = .fault f) : s.Faults f := by
  obtain ⟨t, ht⟩ := (runOp_fault_iff ..).mp h
  have hmakes := service_makes hie hif
  rw [bind_pure] at hmakes
  exact State.During.walk_error (u := u.serving) hu.control (hmakes.error ht)

/-- The fetch of an instruction is a list of reads: it ends inside the step, or with the fault of one of them. -/
theorem fetchInstr_during {s u : State} (hu : s.During u) :
    (∀ i t, fetchInstr u = .ok i t → s.During t) ∧ ∀ f t, fetchInstr u = .error f t → s.Faults f := by
  obtain ⟨i, rest, hd⟩ : ∃ i rest, decode (u.bytesAt u.fetchAddrs) = .ok (i, rest) := by
    rw [State.fetchAddrs_eq]
    exact decode_three_bytes ..
  have hfetch := fetchInstr_walk hd
  split at hfetch
  · rename_i w hw
    have hdw : s.During w := State.walk_keeps (I := s.During) (fun x _ _ h => h.afterDoing x) hu hw
    rw [hfetch]
    refine ⟨fun _ _ h => ?_, fun _ _ h => ?_⟩
    · cases h
      exact hdw.control
    · cases h
  · rename_i f hw
    obtain ⟨t, hfetch⟩ := hfetch
    rw [hfetch]
    refine ⟨fun _ _ h => ?_, fun _ _ h => ?_⟩
    · cases h
    · cases h
      exact hu.walk_error hw

/-- An instruction faults where one of its accesses does, or stops of itself. -/
theorem exec_fault {i : Instr} {s : State} {f : Fault} (h : exec i s = .fault f) :
    s.walk (accesses i s) = .error f ∨ (shapeOf i).stops s ∧ ∃ w, s.walk (accesses i s) = .ok w := by
  cases hw : s.walk (accesses i s) with
  | error f' =>
    rw [exec_walk_error hw] at h
    cases h
    exact .inl rfl
  | ok w =>
    refine .inr ⟨by_contra fun hx => ?_, w, rfl⟩
    obtain ⟨t, ht, -⟩ := exec_walk_ok hx hw
    simp [ht] at h

/-- Where a list of accesses that begins with a cell succeeds, the cell holds a value. -/
theorem State.walk_cell_ok {s w : State} {q : RegCell} {l : List Access} (h : s.walk (.cell q :: l) = .ok w) :
    s.unset.cell q = false ∧ s.walk l = .ok w := by
  rw [State.walk] at h
  split at h
  case isTrue hq => exact ⟨by simpa [State.allows] using hq, h⟩
  case isFalse => cases h

/-- An illegal row is the shape of its opcode. -/
theorem shapeOf_of_isIllegal {i : Instr} (h : isIllegal i = true) : ∃ op, shapeOf i = .illegal op := by
  rw [isIllegal_shape] at h
  cases hx : shapeOf i
  case illegal op => exact ⟨op, rfl⟩
  all_goals simp [hx, Shape.illegalOpcode] at h

/-- The instruction of a step faults inside the step; if it stops of itself, the byte at PC tells it. -/
theorem exec_faults {s u : State} {i : Instr} (hfetch : fetchInstr s.begin.awake = .ok i u) {f : Fault}
    (h : exec i u = .fault f) : s.Faults f := by
  have hu : s.During u := (fetchInstr_during s.during_awake).1 i u hfetch
  have hhead : (encode i).head? = some (s.byteAt s.pc) := fetchInstr_head (s := s.begin.awake) hfetch
  obtain ⟨eime, epending⟩ : u.ime = s.ime ∧ pendingOf u.ie u.ifr = pendingOf s.ie s.ifr := by
    obtain ⟨⟨_, _, _, -, rfl⟩, -⟩ := fetchInstr_ok hfetch
    exact ⟨rfl, rfl⟩
  obtain hw | ⟨hstops, w, hw⟩ := exec_fault h
  · exact hu.walk_error hw
  obtain hill | ⟨rfl, hime, hp, hq⟩ | ⟨⟨x, rfl⟩, hq⟩ := stops_instr hstops
  · obtain ⟨op, hop⟩ := shapeOf_of_isIllegal hill
    obtain ⟨hmem, rfl, -⟩ := fetchInstr_illegal hfetch hop
    rw [exec_shape, hop, Shape.op, runOp_illegalOpcode] at h
    cases h
    exact .illegal hu hmem
  · have hreads : accesses .halt u = [.cell .ie, .cell .ifr] := if_neg (by simp [hime])
    rw [hreads] at hw
    obtain ⟨hie, hw⟩ := State.walk_cell_ok hw
    obtain ⟨hif, -⟩ := State.walk_cell_ok hw
    have hhalt : exec .halt u = .fault (.haltBugFault u.stepPc u.bus) :=
      (runOp_fault_iff (haltOp 4) u _).mpr ⟨u, haltOp_fault 4 hime hie hif hp hq⟩
    rw [hhalt] at h
    cases h
    exact .haltBug hu (Option.some.inj hhead).symm (eime ▸ hime) (epending ▸ hp) hq
  · have hstop : exec (.stop x) u = .fault (.stopFault u.stepPc u.bus) :=
      (runOp_fault_iff (stopOp 4) u _).mpr ⟨u, stopOp_fault 4 hq⟩
    rw [hstop] at h
    cases h
    exact .stop hu (Option.some.inj hhead).symm hq

/-- An instruction, fetched and executed. -/
theorem execOne_faults {s : State} {f : Fault} (h : execOne exec s.begin.awake = .fault f) : s.Faults f := by
  cases hfetch : fetchInstr s.begin.awake with
  | error f' t =>
    rw [execOne, hfetch] at h
    cases h
    exact (fetchInstr_during s.during_awake).2 _ _ hfetch
  | ok i u =>
    rw [execOne_of_fetch hfetch] at h
    cases hexec : exec i u with
    | next t => simp [hexec, eiEpilogue] at h
    | fault f' =>
      rw [hexec] at h
      cases h
      exact exec_faults hfetch hexec
    | refused r => simp [hexec, eiEpilogue] at h

/-- Every fault of a step is one of `State.Faults`. -/
theorem step_faults {s : State} {f : Fault} (hf : s.fault = none) (h : step s = .fault f) : s.Faults f := by
  cases hb : boundary s.begin with
  | error f' t =>
    rw [step_boundary_error hf hb] at h
    cases h
    exact (boundary_faults s _ s.during_begin).2 _ _ hb
  | ok b u =>
    cases b with
    | idle =>
      rw [step_idle hf hb] at h
      cases h
    | service =>
      rw [step_service hf hb] at h
      obtain ⟨rfl, ⟨-, -, -, hie, hif⟩ | ⟨hne, -⟩⟩ := boundary_busy hb nofun
      · exact runOp_service_faults s.during_awake hie hif h
      · cases hne
    | instruction =>
      obtain ⟨rfl, -⟩ := boundary_busy hb nofun
      rw [step_body hf, stepBody, hb] at h
      exact execOne_faults h

/-- A cell is UNDEF only where some cell was as the step began. -/
theorem State.During.unset_ne {s u : State} (h : s.During u) {q : RegCell} (hq : u.unset.cell q = true) :
    s.unset ≠ Unset.none := by
  intro hs
  rw [h.marks hs] at hq
  cases q <;> cases hq

/-- A read that does not succeed is of an IF or IE that is UNDEF, or of the bus. -/
theorem State.refusal_read_cases {s : State} {a : Word} (h : s.canRead a = false) :
    (∃ q, s.unset.cell q = true ∧ s.refusal (.read a) = .undefinedRegisterFault q s.stepPc s.bus) ∨ onBus a = true := by
  by_cases hif : a = ifAddr
  · subst hif
    have hundef : s.unset.ifr = true := by simpa [State.canRead_if] using h
    exact .inl ⟨.ifr, hundef, rfl⟩
  by_cases hie : a = ieAddr
  · subst hie
    have hundef : s.unset.ie = true := by simpa [State.canRead_ie] using h
    exact .inl ⟨.ie, hundef, rfl⟩
  · exact .inr ((onBus_iff a).mpr ⟨hif, hie⟩)

/-- A write that does not succeed is of the bus (20_memory.md R55). -/
theorem State.onBus_of_canWrite {s : State} {a : Word} {v : Byte} (h : s.canWrite a v = false) : onBus a = true := by
  simp only [State.canWrite, Bool.or_eq_false_iff, decide_eq_false_iff_not] at h
  exact (onBus_iff a).mpr h.1

/-- Settles O9: each fault is one of `State.Faults`, whose names are those of the state the step began in. -/
theorem faultsHaveTheirCauses : Obligations.FaultsHaveTheirCauses := by
  unfold Obligations.FaultsHaveTheirCauses
  intro s f hf h
  obtain @⟨u, x, hu, hx⟩ | ⟨hu, hop⟩ | ⟨hu, hop, hime, hp, hq⟩ | ⟨hu, hop, hq⟩ := step_faults hf h
  case access =>
    cases x with
    | cell q => exact ⟨hu.stepPc, hu.unset_ne (q := q) (by simpa [State.allows] using hx)⟩
    | read a =>
      obtain ⟨q, hq, hrefusal⟩ | hon := State.refusal_read_cases hx
      · rw [hrefusal]
        exact ⟨hu.stepPc, hu.unset_ne hq⟩
      · have hnone : (u.bus.readByte a).1 = none := by simpa using (State.canRead_onBus hon u).symm.trans hx
        rw [State.refusal_read_onBus hon]
        exact ⟨hu.stepPc, hon, u.bus, hu.map, Prod.ext hnone rfl⟩
    | write a v =>
      have hon : onBus a = true := State.onBus_of_canWrite hx
      rw [State.refusal_write_onBus hon]
      exact ⟨hu.stepPc, hon, u.bus, hu.map, Prod.ext ((State.canWrite_onBus hon ..).symm.trans hx) rfl⟩
  case illegal => exact ⟨hu.stepPc, hu.cycles, rfl, hop⟩
  case haltBug => exact ⟨hu.stepPc, hop, hu.quirk ▸ hq, hime, hp⟩
  case stop => exact ⟨hu.stepPc, hop, hu.stop ▸ hq⟩

/-- The bus that a refused access leaves is the one the access left. -/
theorem State.refusal_bus (s : State) (x : Access) : (s.refusal x).bus = (s.afterDoing x).bus := by
  cases x with
  | cell q => rfl
  | write a v => rfl
  | read a =>
    rw [State.refusal, State.afterDoing]
    split
    case isTrue hif => rw [State.afterRead, if_pos hif]; rfl
    case isFalse hif =>
      split
      case isTrue hie => rw [State.afterRead, if_neg hif, if_pos hie]; rfl
      case isFalse => rfl

/-- A fault carries a bus in canonical form. -/
theorem State.Faults.wf {s : State} {f : Fault} (h : s.Faults f) (hw : s.bus.wf = true) : f.bus.wf = true := by
  cases h with
  | access hu hx => rw [State.refusal_bus]; exact (hu.afterDoing _).wf hw
  | illegal hu _ => exact hu.wf hw
  | haltBug hu _ _ _ _ => exact hu.wf hw
  | stop hu _ _ => exact hu.wf hw

/-- A machine with a latched fault answers it again and stays as it is. -/
theorem stepCall_latched {s : State} {f : Fault} (h : s.fault = some f) : stepCall s = (.fault f, s) := by
  unfold stepCall
  rw [h]

/-- What a call of `step` that returns a fault has done. -/
theorem stepCall_fault {s t : State} {f : Fault} (h : stepCall s = (.fault f, t)) :
    (s.fault = some f ∧ t = s) ∨ (s.fault = none ∧ step s = .fault f ∧ t = s.afterFault f) := by
  cases hf : s.fault with
  | some f' =>
    rw [stepCall_latched hf] at h
    cases h
    exact .inl ⟨rfl, rfl⟩
  | none =>
    unfold stepCall at h
    rw [hf] at h
    cases hstep : step s with
    | next u => simp [hstep] at h
    | fault f' =>
      simp only [hstep, Prod.mk.injEq, StepReturn.fault.injEq] at h
      obtain ⟨rfl, rfl⟩ := h
      exact .inr ⟨rfl, rfl, rfl⟩
    | refused r => exact absurd hstep (step_not_refused s r)

/-- Settles O10: the latch is written with the fault or already holds it, and a latched fault is answered again. -/
theorem faultIsTerminal : Obligations.FaultIsTerminal := by
  unfold Obligations.FaultIsTerminal
  intro s t f h
  obtain ⟨hlatched, rfl⟩ | ⟨hf, hstep, rfl⟩ := stepCall_fault h
  · exact ⟨hlatched, rfl, step_latched hlatched, h, fun hnone => by simp [hlatched] at hnone,
      fun _ hnone => by simp [hlatched] at hnone⟩
  · have hlatched : (s.afterFault f).fault = some f := rfl
    exact ⟨hlatched, rfl, step_latched hlatched, stepCall_latched hlatched, fun _ => rfl,
      fun hw _ => (step_faults hf hstep).wf hw⟩

end Sys2Proof.Machine
end
